-- ==== Sys2Proof/Word.lean ====
section
/-! DEFINITION. The plainest arithmetic of the model: bytes, big-endian fields, clamps, saturating
counts, and the record of eight like things (one per LED segment or wall zone). -/

namespace Sys2Proof

/-- One byte of a cell. -/
abbrev Byte := BitVec 8

/-- The unsigned value of a SET command (TABLE 8-7, bytes 3..6). -/
abbrev Word := BitVec 32

/-- Eight like things, one for each LED segment or zone 0..7 (section 0.5 case k). -/
structure Eight (α : Type) where
  e0 : α
  e1 : α
  e2 : α
  e3 : α
  e4 : α
  e5 : α
  e6 : α
  e7 : α
  deriving DecidableEq, Repr

/-- The entry of segment or zone `i`. -/
def Eight.get {α : Type} (v : Eight α) (i : Fin 8) : α :=
  match i with
  | 0 => v.e0
  | 1 => v.e1
  | 2 => v.e2
  | 3 => v.e3
  | 4 => v.e4
  | 5 => v.e5
  | 6 => v.e6
  | 7 => v.e7

/-- The eight entries of a function of the segment number. -/
def Eight.build {α : Type} (f : Fin 8 → α) : Eight α :=
  ⟨f 0, f 1, f 2, f 3, f 4, f 5, f 6, f 7⟩

/-- The same entry eight times. -/
def Eight.all {α : Type} (a : α) : Eight α :=
  Eight.build fun _ => a

/-- The entries with entry `i` replaced. -/
def Eight.set {α : Type} (v : Eight α) (i : Fin 8) (a : α) : Eight α :=
  Eight.build fun j => if j = i then a else v.get j

/-- Every entry changed by `f`. -/
def Eight.map {α β : Type} (f : α → β) (v : Eight α) : Eight β :=
  Eight.build fun j => f (v.get j)

/-- The eight entries in order. -/
def Eight.toList {α : Type} (v : Eight α) : List α :=
  [v.e0, v.e1, v.e2, v.e3, v.e4, v.e5, v.e6, v.e7]

/-- Whether some entry satisfies `p`. -/
def Eight.any {α : Type} (p : α → Bool) (v : Eight α) : Bool :=
  v.toList.any p

/-- `n` brought into `lo..hi` (section 0.5 case c). -/
def clampNat (lo hi n : Nat) : Nat :=
  max lo (min hi n)

/-- `n` brought into `lo..hi` (section 0.5 case c). -/
def clampInt (lo hi n : Int) : Int :=
  max lo (min hi n)

/-- The sum, stopped at `top` (section 0.5 case d). -/
def satAdd (top a b : Nat) : Nat :=
  min top (a + b)

/-- The lowest `k` bytes of `n`, most significant byte first (R146). -/
def bigEndian (k n : Nat) : List Byte :=
  match k with
  | 0 => []
  | k + 1 => bigEndian k (n / 256) ++ [BitVec.ofNat 8 n]

/-- The number that bytes spell, most significant byte first (R146). -/
def fromBigEndian (bytes : List Byte) : Nat :=
  bytes.foldl (fun acc b => acc * 256 + b.toNat) 0

/-- A Boolean as a bit of a field. -/
def bit (b : Bool) : Nat :=
  if b then 1 else 0

end Sys2Proof
end

