-- ==== Sys2Proof/Config.lean ====
section
/-! DEFINITION. What is fixed for the part: capacities, levels, lengths of time, identity, and the
values the manual leaves open, which are constants without a body. -/

namespace Sys2Proof.Config

/-- Steps of the 48 MHz timebase in one microsecond (R109); the model's clock counts these steps. -/
def stepsPerMicrosecond : Nat := 48

/-- Timebase steps in `n` microseconds. -/
def microseconds (n : Nat) : Nat := n * stepsPerMicrosecond

/-- Timebase steps in `n` milliseconds. -/
def milliseconds (n : Nat) : Nat := microseconds (n * 1000)

/-- Timebase steps in `n` seconds. -/
def seconds (n : Nat) : Nat := milliseconds (n * 1000)

/-- Capacities of the four queues (TABLE 8-1). -/
def ownVideoCapacity : Nat := 192
def managementCapacity : Nat := 32
def upForwardCapacity : Nat := 128
def downForwardCapacity : Nat := 16

/-- Thresholds of HOLD and GO (R154, R156). -/
def downHoldAt : Nat := 12
def downGoAt : Nat := 8
def upHoldAt : Nat := 96
def upGoAt : Nat := 64

/-- The defect list and the defect edit queue (R69, R73). -/
def defectCapacity : Nat := 512
def editCapacity : Nat := 16

/-- The top of a 32-bit saturating counter (R171). -/
def counterTop : Nat := 4294967295

/-- The limit of the odometer position (R85). -/
def positionLimit : Int := 2147483647

/-- The fixed sense levels (R130), in microamperes and millivolts. -/
def openThreshold : Nat := 5000
def shortThreshold : Nat := 2000
def currentLimit : Nat := 1500000

/-- On-steps of a segment's sense window (R130). -/
def senseSteps : Nat := 960

/-- Identity (R162, R169): part code, revision code and segment count. -/
def partCode : Nat := 3620
def revisionCode : Nat := 1
def segmentCount : Nat := 8

/-- The serial number fixed at manufacture (section 9.2): any value, the same for the part's life. -/
opaque serialNumber : BitVec 48

/-- FREE VALUE: what a pixel of a slot that was never written holds (assumption 8). -/
opaque unwrittenPixel : Nat → Nat → BitVec 12

/-- FREE VALUES: what a table entry of a segment never received holds (R38, assumption 8). -/
opaque unreceivedColumn : Nat → BitVec 15
opaque unreceivedRow : Nat → BitVec 14
opaque unreceivedVoid : Nat → Bool
opaque unreceivedZone : Nat → Option (Fin 8)
opaque unreceivedGain : Nat → BitVec 12

/-- FREE VALUE: the two bytes READ DEFECT ENTRIES sends for a survey overflow count above 65535 (R78,
TABLE 8-9, assumption 31). -/
opaque wideOverflow : Nat → BitVec 16

/-- FREE VALUE: whether a waiting probe starts before the next exposure when the end of one
exposure brings both (R143 leaves the order open, assumption 7). -/
opaque probeStartsFirst : Nat → Bool

end Sys2Proof.Config
end

