-- ==== Sys2Proof/Syntax.lean ====
section
/-! DEFINITION. The commands and events of the block: one constructor of `Instr` for each row of
spec/opcode_table.json, and the types their operands use. -/

namespace Sys2Proof

/-- The two link ports of a head (section 8.2). -/
inductive PortId where
  | tether
  | chain
  deriving DecidableEq, Repr

/-- The eight kinds of cell (R146 case a, TABLE 8-2). -/
inductive CellKind where
  | command
  | rollCall
  | reply
  | rollCallReply
  | status
  | frameStart
  | row
  | frameEnd
  deriving DecidableEq, Repr

/-- A cell without its check sequence, which is made anew as the cell leaves a port (R146, R147). -/
structure Cell where
  kind : CellKind
  source : BitVec 4
  dest : BitVec 4
  tag : Byte
  used : Byte
  /-- The 64 payload bytes. -/
  payload : List Byte
  deriving DecidableEq, Repr

/-- The two view banks (R38). -/
inductive BankId where
  | bank0
  | bank1
  deriving DecidableEq, Repr

/-- One of the two odometer inputs (section 5.2). -/
inductive OdoPhase where
  | phaseA
  | phaseB
  deriving DecidableEq, Repr

/-- What the sense returns of one string read: current in microamperes, voltage in millivolts. -/
structure StringReading where
  current : Nat
  voltage : Nat
  deriving DecidableEq, Repr

/-- The reply codes of TABLE 10-2, coded as TABLE 8-4 gives. -/
inductive ReplyCode where
  | done
  | accepted
  | clamped
  | busy
  | refused
  | badValue
  | noSuchItem
  | noSuchHead
  | full
  | existing
  | absent
  | unknownCommand
  deriving DecidableEq, Repr

/-- The commands and events of the block, one constructor for each row of the opcode table.
A row that is a command of the surface station stands for that command consumed by this head
(R152), with the tag its REPLY carries; a row that is an event carries what arrives with it. -/
inductive Instr where
  -- Resets (R177). The pins and the die as the reset finds them: odometer phases and temperature.
  | powerOnReset (a b : Bool) (temperature : Int)
  | lineReset (a b : Bool) (temperature : Int)
  -- A COMMAND cell arriving on the tether port (R152).
  | commandCell (source dest : BitVec 4) (tag used : Byte) (payload : List Byte)
  -- Enquiries (R169).
  | readIdentity (tag : Byte)
  | readStatus (tag : Byte)
  | readCounters (tag : Byte)
  | readZoneStats (tag segment : Byte)
  | readBankInfo (tag : Byte)
  | readTableVerdict (tag : Byte)
  | readDefectEntries (tag : Byte) (start : BitVec 16)
  | readParameter (tag identifier segment : Byte)
  | readProbeResult (tag : Byte)
  | readTemperature (tag : Byte)
  -- Parameters (R170, TABLE 10-3).
  | setSourceWidth (tag : Byte) (value : Word)
  | setSourceHeight (tag : Byte) (value : Word)
  | setBlackLevel (tag : Byte) (value : Word)
  | setDarkThreshold (tag : Byte) (value : Word)
  | setExposure (tag : Byte) (value : Word)
  | setBlurLimit (tag : Byte) (value : Word)
  | setTriggerStep (tag : Byte) (value : Word)
  | setDwellTimeout (tag : Byte) (value : Word)
  | setDwellInterval (tag : Byte) (value : Word)
  | setParkTimeout (tag : Byte) (value : Word)
  | setParkInterval (tag : Byte) (value : Word)
  | setWakeDistance (tag : Byte) (value : Word)
  | setLedCycle (tag : Byte) (value : Word)
  | setDuty (tag segment : Byte) (value : Word)
  | setBrightnessTarget (tag : Byte) (value : Word)
  | setTuneBand (tag : Byte) (value : Word)
  | setReferenceBeta (tag : Byte) (value : Word)
  | setTuneHoldoff (tag : Byte) (value : Word)
  | setAutoRetune (tag : Byte) (value : Word)
  | setLedFaultResponse (tag : Byte) (value : Word)
  | setLedFaultReport (tag : Byte) (value : Word)
  | setThermalReport (tag : Byte) (value : Word)
  | setReportMode (tag : Byte) (value : Word)
  | setEventMask (tag : Byte) (value : Word)
  -- View banks (Chapter 3).
  | tableOpen (tag bank : Byte) (width height fill : BitVec 16) (label : List Byte)
  | tableData (tag used : Byte) (bank part : BitVec 4) (number : BitVec 16) (entries : List Byte)
  | tableClose (tag bank : Byte)
  | commitView (tag bank : Byte)
  | rawView (tag : Byte)
  -- Defect list and dark survey (Chapter 4).
  | defectAdd (tag : Byte) (row : BitVec 10) (column : BitVec 11) (method : BitVec 2)
  | defectRemove (tag : Byte) (row : BitVec 10) (column : BitVec 11)
  | defectClear (tag originFilter : Byte)
  | darkSurvey (tag : Byte)
  -- Lamps, sequencer, odometer and reporting commands.
  | tune (tag mask : Byte)
  | reseed (tag mask : Byte)
  | probe (tag : Byte)
  | snap (tag : Byte)
  | zeroOdometer (tag : Byte)
  | clearFaults (tag : Byte)
  | ackReset (tag : Byte)
  | restart (tag : Byte)
  -- Cells, symbols and port events (Chapters 8 and 9).
  | rollCall (source dest : BitVec 4) (tag used : Byte) (payload : List Byte)
  | upwardCellReceipt (cell : Cell)
  | hold (port : PortId)
  | go (port : PortId)
  | portUp (port : PortId)
  /-- `midCell`: whether a cell was being received when the port went DOWN (R148). -/
  | portLockLoss (port : PortId) (midCell : Bool)
  | portSymbolTimeout (port : PortId) (midCell : Bool)
  | tetherArbiterChoice
  | chainOutboundSend
  -- Pixel port (Chapter 4).
  | frameBegin
  | line (pixels : List (BitVec 12))
  | frameEnd
  -- Warp Engine (Chapter 2).
  | warpFrameStart
  | itemProduction
  | warpFrameEnd
  -- Odometer, motion and sequencer events (Chapter 5).
  | odometerCount (phase : OdoPhase)
  | odoGlitch
  | speedWindow
  | dwellTimer
  | parkTimer
  | timeTrigger
  | exposureEnd
  | sensorTimeout
  | readoutLimit
  -- Lamp Protection events (Chapter 7).
  /-- `peakCurrent`: the greatest string current over the sense window; `voltage`: at its close. -/
  | senseWindowClose (segment : Fin 8) (peakCurrent voltage : Nat)
  | overcurrent (segment : Fin 8) (current : Nat)
  | thermalSample (temperature : Int)
  | probeCompletion (strings : Eight StringReading)
  -- Table check and cell errors.
  | tableCheckCompletion (bank : BankId)
  /-- A complete cell as received, 70 bytes with its check sequence (R147, R149). -/
  | cellError (port : PortId) (bytes : List Byte)
  deriving DecidableEq, Repr

end Sys2Proof
end

