-- ==== Sys2Proof/Machine/State.lean ====
section
/-! DEFINITION. The state of the block, block by block as TABLE 0-2 names them, and its value after
power-on reset. Everything is plain data. -/

namespace Sys2Proof.Machine

/-- Why the machine stops with a fault. No meaning of this block ends in one: the manual gives every
row of the table an effect. -/
inductive Fault where
  /-- Raised by no meaning: the manual describes no condition that stops the part. Safe. -/
  | stopped
  deriving DecidableEq, Repr

/-- Why a command has no meaning. -/
inductive Refusal where
  /-- Raised only by an arm of `exec` whose row has no meaning yet; there is none. Safe. -/
  | notModelled (mnemonic : String)
  deriving DecidableEq, Repr

/-! ## View banks and their tables (Chapters 1 and 3) -/

/-- A mesh node: source coordinates in sixteenths of a pixel and the VOID mark (R4). -/
structure MeshNode where
  sx : Nat
  sy : Nat
  isVoid : Bool
  deriving DecidableEq, Repr

/-- The view header of a bank (R3). -/
structure Header where
  wo : Nat
  ho : Nat
  fill : Nat
  label : List Byte
  deriving DecidableEq, Repr

/-- The five bank states (TABLE 3-1). -/
inductive BankState where
  | empty
  | opened
  | checking
  | valid
  | active
  deriving DecidableEq, Repr

/-- A view bank (R38). Each part is held as its received segments, in ascending segment number: the
numbers are the part's received-segment set, the lists are the entries stored. -/
structure Bank where
  state : BankState
  header : Option Header
  mesh : List (Nat × List MeshNode)
  zones : List (Nat × List (Option (Fin 8)))
  gains : List (Nat × List Nat)
  /-- The check raster Wc, Hc, held while CHECKING (R47). -/
  checkRaster : Option (Nat × Nat)
  deriving DecidableEq, Repr

/-- The three parts of a view's tables (R44). -/
inductive TablePart where
  | mesh
  | zone
  | gain
  deriving DecidableEq, Repr

/-- A view: one of the banks, or the raw view (R23). -/
inductive View where
  | bank (b : BankId)
  | raw
  deriving DecidableEq, Repr

/-- The verdict of a check, with its detail (R48, R49, R52). -/
inductive CheckVerdict where
  | none
  | passed
  | incomplete (part : TablePart) (segment : Nat)
  | nodeOutside (node : Nat)
  deriving DecidableEq, Repr

/-- The verdict record (R52). -/
structure VerdictRecord where
  bank : Option BankId
  verdict : CheckVerdict
  raster : Option (Nat × Nat)
  deriving DecidableEq, Repr

/-- The View Bank Store (Chapter 3). -/
structure ViewBankStore where
  bank0 : Bank
  bank1 : Bank
  /-- The pending view change, if one is held (R40). -/
  pendingView : Option View
  verdict : VerdictRecord
  deriving DecidableEq, Repr

/-! ## Exposures, frames and slots (Chapters 4 and 5) -/

/-- What caused an exposure (R60). -/
inductive Cause where
  | distance
  | time
  | snap
  | survey
  deriving DecidableEq, Repr

/-- The motion modes (section 5.5). -/
inductive MotionMode where
  | travel
  | dwell
  | parked
  deriving DecidableEq, Repr

/-- The exposure record and, once attached to a slot, the frame record (TABLE 4-2). -/
structure FrameRecord where
  sequence : BitVec 16
  cause : Cause
  tag : Int
  position : Int
  mode : MotionMode
  eEff : Nat
  gx : Nat
  applied : Eight Nat
  markers : Eight (Option Nat)
  dark : Bool
  derated : Bool
  shutdown : Bool
  ledFault : Bool
  skippedBefore : Nat
  repaired : Nat
  unrepaired : Nat
  short : Bool
  deriving DecidableEq, Repr

/-- The three frame slots (section 0.5 case l). -/
inductive SlotId where
  | slot0
  | slot1
  | slot2
  deriving DecidableEq, Repr

/-- The slot states (TABLE 4-1). -/
inductive SlotState where
  | free
  | filling
  | ready
  | warping
  deriving DecidableEq, Repr

/-- A row of a slot: its pixel values V and how many of its columns were received (R65, R80). -/
structure SlotRow where
  pixels : List Nat
  received : Nat
  deriving DecidableEq, Repr

/-- A frame slot (R59, R60). -/
structure Slot where
  state : SlotState
  ws : Nat
  hs : Nat
  black : Nat
  rows : List SlotRow
  record : Option FrameRecord
  deriving DecidableEq, Repr

/-- The Frame Slot Pool, with the ready order (R59). -/
structure SlotPool where
  slot0 : Slot
  slot1 : Slot
  slot2 : Slot
  readyOrder : List SlotId
  deriving DecidableEq, Repr

/-- Substitution methods (TABLE 4-4). -/
inductive Method where
  | h
  | v
  | q
  deriving DecidableEq, Repr

/-- Where a defect entry came from (R69). -/
inductive Origin where
  | loaded
  | learned
  deriving DecidableEq, Repr

/-- An entry of the defect list (R69). -/
structure DefectEntry where
  row : Nat
  column : Nat
  method : Method
  origin : Origin
  deriving DecidableEq, Repr

/-- An edit of the defect edit queue (R73). -/
inductive Edit where
  | add (row column : Nat) (method : Method)
  | remove (row column : Nat)
  | clear (learnedOnly : Bool)
  deriving DecidableEq, Repr

/-- The dark survey (R79, R80): while COLLECTING, its threshold, the candidates kept as
(row, column), and the overflow counted. -/
inductive Survey where
  | idle
  | armed
  | collecting (threshold : Nat) (candidates : List (Nat × Nat)) (overflow : Nat)
  deriving DecidableEq, Repr

/-- The last survey result (R78 case d). -/
structure SurveyResult where
  added : Nat
  overflow : Nat
  sequence : BitVec 16
  deriving DecidableEq, Repr

/-- Why a frame passes without being kept (TABLE 4-3). A DROPPED frame names the exposure whose drop
it reports at its end, or none when a RESTART has silenced it (R84 case b). -/
inductive PassKind where
  | dropped (report : Option (BitVec 16))
  | unsolicited
  | abandoned
  deriving DecidableEq, Repr

/-- The intake state (TABLE 4-3). -/
inductive Intake where
  | waiting
  | filling (slot : SlotId)
  | passing (kind : PassKind)
  deriving DecidableEq, Repr

/-- Sensor Intake (Chapter 4). -/
structure SensorIntake where
  intake : Intake
  defects : List DefectEntry
  edits : List Edit
  survey : Survey
  lastSurvey : Option SurveyResult
  deriving DecidableEq, Repr

/-- The sequencer states (TABLE 5-6). -/
inductive Sequencer where
  | ready
  | exposing
  | awaitingFrame
  deriving DecidableEq, Repr

/-- The record state of the current exposure (section 5.6). -/
inductive RecordState where
  | outstanding
  | readingOut
  | closed
  deriving DecidableEq, Repr

/-- The current exposure (TABLE 5-1), with the moments its timers run from and the slot its record
was attached to. -/
structure CurrentExposure where
  sequence : BitVec 16
  recordState : RecordState
  /-- The moment of its start and its length E_eff in microseconds (R101, R102). -/
  start : Nat
  eEff : Nat
  /-- The moment it ended with its record OUTSTANDING: the sensor timeout runs (R102 case b). -/
  endedAt : Option Nat
  /-- The moment of its frame begin report: the readout limit runs (R103 case a). -/
  begunAt : Option Nat
  slot : Option SlotId
  deriving DecidableEq, Repr

/-- A trigger: cause and tag (section 5.6). -/
structure Trigger where
  cause : Cause
  tag : Int
  deriving DecidableEq, Repr

/-- The Position and Trigger Unit (TABLE 5-1). -/
structure PositionUnit where
  /-- Odometer position P. -/
  p : Int
  /-- Last trigger point L. -/
  l : Int
  /-- Phase reference: the pair (A, B) as last taken. -/
  phaseA : Bool
  phaseB : Bool
  restPosition : Option Int
  lastCount : Nat
  /-- Speed v in counts per second. -/
  speed : Nat
  windowStartValue : Int
  /-- The moment the speed window in progress began. -/
  windowStart : Nat
  mode : MotionMode
  /-- The moment of entry to the present mode (R95). -/
  modeEntered : Nat
  timeReference : Option Nat
  sequencer : Sequencer
  current : Option CurrentExposure
  /-- The exposure record while it is outstanding (R101). -/
  outstanding : Option FrameRecord
  pendingTrigger : Option Trigger
  nextSequence : BitVec 16
  skipTally : Nat
  /-- The trigger line to the sensor, driven or released. -/
  triggerLine : Bool
  deriving DecidableEq, Repr

/-! ## The Warp Engine (Chapter 2) -/

/-- What the engine will next place into its queue (TABLE 2-1). The FRAME START cell is built at the
frame's start and held until it is placed (R25). -/
inductive NextPlace where
  | frameStart (cell : Cell)
  | row (r : Nat)
  | frameEnd
  deriving DecidableEq, Repr

/-- The frame in hand of a RUNNING engine (TABLE 2-1). -/
structure Run where
  stalled : Bool
  slot : SlotId
  view : View
  number : BitVec 16
  wo : Nat
  ho : Nat
  next : NextPlace
  deriving DecidableEq, Repr

/-- The accumulators of one zone (R30). -/
structure ZoneAccumulator where
  sum : Nat
  count : Nat
  fullScale : Nat
  deriving DecidableEq, Repr

/-- The result of one zone (R31). -/
structure ZoneResult where
  mean : Nat
  count : Nat
  unseen : Bool
  glare : Bool
  deriving DecidableEq, Repr

/-- The Warp Engine (TABLE 2-1); IDLE when it has no run. -/
structure WarpEngine where
  run : Option Run
  nextNumber : BitVec 16
  accumulators : Eight ZoneAccumulator
  reserved : Nat
  resetMark : Bool
  /-- Last zone results: the frame they name, if any, and the eight results (R33). -/
  lastFrame : Option (BitVec 16)
  lastZones : Eight ZoneResult
  deriving DecidableEq, Repr

/-! ## The Illumination Unit (Chapter 6) -/

/-- The tune state of a segment with what it holds (TABLE 6-1): while TUNING the trial index, the
trial duty, the first exposure of the trial and the pre-tune duty; in HOLDOFF the frames left. -/
inductive Tune where
  | steady
  | tuning (trial duty : Nat) (first : Option (BitVec 16)) (preTune : Nat)
  | holdoff (remaining : Nat)
  deriving DecidableEq, Repr

/-- How the last tune of a segment ended (TABLE 6-1). -/
inductive TuneVerdict where
  | none
  | ok
  | atTop
  | atBottom
  | offTarget
  | unseen
  | aborted
  | fault
  deriving DecidableEq, Repr

/-- The illumination record of one segment (TABLE 6-1). -/
structure SegmentDrive where
  staged : Nat
  applied : Nat
  tune : Tune
  reference : Nat
  reseed : Bool
  verdict : TuneVerdict
  /-- Final duty and final M. -/
  final : Option (Nat × Nat)
  deriving DecidableEq, Repr

/-- The Illumination Unit (TABLE 6-1). -/
structure IlluminationUnit where
  cycle : Nat
  pendingCycle : Option Nat
  segments : Eight SegmentDrive
  deriving DecidableEq, Repr

/-! ## Lamp Protection (Chapter 7) -/

/-- The protection record of one segment (TABLE 7-1). `turnedOff`: off until the window closes
(R109, R133, R138). -/
structure SegmentGuard where
  openLatch : Bool
  shortLatch : Bool
  overLatch : Bool
  disabled : Bool
  openCount : Nat
  progress : Nat
  turnedOff : Bool
  deriving DecidableEq, Repr

/-- The thermal states (TABLE 7-1). -/
inductive Thermal where
  | normal
  | derate
  | shutdown
  deriving DecidableEq, Repr

/-- The probe states (TABLE 7-1). -/
inductive ProbeState where
  | idle
  | waiting
  | probing
  deriving DecidableEq, Repr

/-- The outcome of a probe for one string (TABLE 7-1). -/
inductive ProbeResult where
  | notRun
  | connected
  | opened
  | shorted
  | aborted
  deriving DecidableEq, Repr

/-- Lamp Protection (TABLE 7-1). -/
structure LampProtection where
  segments : Eight SegmentGuard
  temperature : Int
  /-- The moment of the last sample of the run (R136). -/
  lastSample : Nat
  thermal : Thermal
  warn : Bool
  shut : Bool
  probe : ProbeState
  /-- The moment the probe in progress began (R142). -/
  probeStart : Nat
  results : Eight ProbeResult
  /-- The ALERT line, asserted or released. -/
  alert : Bool
  deriving DecidableEq, Repr

/-! ## The Link Unit (Chapters 8 to 10) -/

/-- The flow-control symbols (section 8.2). -/
inductive FlowSymbol where
  | hold
  | go
  deriving DecidableEq, Repr

/-- A link port (R148, R150). `sending`: the 70 bytes of the cell begun last, until the next cell
boundary; `lastSymbol`: the control symbol sent last since the port came UP. -/
structure Port where
  up : Bool
  holdReceived : Bool
  holdSent : Bool
  sending : Option (List Byte)
  lastSymbol : Option FlowSymbol
  deriving DecidableEq, Repr

/-- Which of the two video queues holds the arbiter's turn (R157). -/
inductive Turn where
  | ownVideo
  | upForward
  deriving DecidableEq, Repr

/-- The eleven counters (TABLE 10-4). -/
structure Counters where
  sourceSkipped : Nat
  unsolicitedFrames : Nat
  sourceLinesAdjusted : Nat
  odoGlitches : Nat
  triggerOverruns : Nat
  sensorTimeouts : Nat
  tetherCellErrors : Nat
  chainCellErrors : Nat
  downForwardDiscards : Nat
  upForwardDiscards : Nat
  replyDropped : Nat
  deriving DecidableEq, Repr

/-- The Link Unit. `replyPlace`: the model's own mark that the command being executed holds a place
of the management queue for its REPLY (assumption 9); it is clear between steps. -/
structure LinkUnit where
  tether : Port
  chain : Port
  /-- The head position, `none` when UNASSIGNED (R161). -/
  position : Option Nat
  ownVideo : List Cell
  management : List Cell
  upForward : List Cell
  downForward : List Cell
  turn : Turn
  counters : Counters
  /-- Event latches, one bit each in the order of TABLE 10-5. -/
  latches : BitVec 15
  resetNotice : Bool
  statusOwed : Bool
  replyPlace : Bool
  deriving DecidableEq, Repr

/-! ## Parameters (TABLE 10-3) -/

/-- The response to an open or shorted string (R135). -/
inductive FaultResponse where
  | off
  | keep
  deriving DecidableEq, Repr

/-- Whether a condition drives the ALERT line (R139). -/
inductive AlertReport where
  | alert
  | statusOnly
  deriving DecidableEq, Repr

/-- The report modes (R174). -/
inductive ReportMode where
  | everyFrame
  | onEvent
  | whileTravelling
  deriving DecidableEq, Repr

/-- The parameters of TABLE 10-3; LED CYCLE and DUTY are held by the Illumination Unit. -/
structure Parameters where
  sourceWidth : Nat
  sourceHeight : Nat
  blackLevel : Nat
  darkThreshold : Nat
  exposure : Nat
  blurLimit : Nat
  triggerStep : Nat
  dwellTimeout : Nat
  dwellInterval : Nat
  parkTimeout : Nat
  parkInterval : Nat
  wakeDistance : Nat
  brightnessTarget : Nat
  tuneBand : Nat
  referenceBeta : Nat
  tuneHoldoff : Nat
  autoRetune : Bool
  ledFaultResponse : FaultResponse
  ledFaultReport : AlertReport
  thermalReport : AlertReport
  reportMode : ReportMode
  eventMask : BitVec 15
  deriving DecidableEq, Repr

/-- The state of the block. `pending` is the queue of commands and events waiting, first in, first
out; `now` is the moment, in timebase steps since the last power-on or line reset (assumption 2);
`freeIndex` is the model's own index of the next free choice (assumption 7). -/
structure State where
  pending : List Instr
  now : Nat
  freeIndex : Nat
  params : Parameters
  intake : SensorIntake
  slots : SlotPool
  engine : WarpEngine
  views : ViewBankStore
  position : PositionUnit
  lamps : IlluminationUnit
  guard : LampProtection
  link : LinkUnit
  deriving DecidableEq, Repr

/-! ## Reset values -/

/-- An EMPTY bank (R38, R58). -/
def Bank.emptied : Bank :=
  { state := .empty, header := none, mesh := [], zones := [], gains := [], checkRaster := none }

/-- A FREE slot (R59, R83). -/
def Slot.freed : Slot :=
  { state := .free, ws := 0, hs := 0, black := 0, rows := [], record := none }

/-- The View Bank Store after reset (R52, R58). -/
def ViewBankStore.reset : ViewBankStore :=
  { bank0 := Bank.emptied, bank1 := Bank.emptied, pendingView := none
    verdict := { bank := none, verdict := .none, raster := none } }

/-- All slots FREE and the ready order empty (R83). -/
def SlotPool.reset : SlotPool :=
  { slot0 := Slot.freed, slot1 := Slot.freed, slot2 := Slot.freed, readyOrder := [] }

/-- Sensor Intake after reset (R83). -/
def SensorIntake.reset : SensorIntake :=
  { intake := .waiting, defects := [], edits := [], survey := .idle, lastSurvey := none }

/-- The Position and Trigger Unit after reset (R107); the phase pair is the one present (assumption 5). -/
def PositionUnit.reset : PositionUnit :=
  { p := 0, l := 0, phaseA := false, phaseB := false, restPosition := none, lastCount := 0
    speed := 0, windowStartValue := 0, windowStart := 0, mode := .travel, modeEntered := 0
    timeReference := none, sequencer := .ready, current := none, outstanding := none
    pendingTrigger := none, nextSequence := 0, skipTally := 0, triggerLine := false }

/-- The accumulators of a zone at 0 (R30). -/
def ZoneAccumulator.zero : ZoneAccumulator :=
  { sum := 0, count := 0, fullScale := 0 }

/-- The result of a zone that no pixel counted for (R21, R31). -/
def ZoneResult.nothing : ZoneResult :=
  { mean := 0, count := 0, unseen := true, glare := false }

/-- The Warp Engine after reset (R21). -/
def WarpEngine.reset : WarpEngine :=
  { run := none, nextNumber := 0, accumulators := Eight.all ZoneAccumulator.zero, reserved := 0
    resetMark := true, lastFrame := none, lastZones := Eight.all ZoneResult.nothing }

/-- The illumination record of a segment after reset (R128). -/
def SegmentDrive.reset : SegmentDrive :=
  { staged := 0, applied := 0, tune := .steady, reference := 0, reseed := true, verdict := .none
    final := none }

/-- The Illumination Unit after reset (R128). -/
def IlluminationUnit.reset : IlluminationUnit :=
  { cycle := 10, pendingCycle := none, segments := Eight.all SegmentDrive.reset }

/-- The protection record of a segment after reset (R144). That the sense progress, which sensing has
abandoned, reads 0 is the model's choice (assumption 33). -/
def SegmentGuard.reset : SegmentGuard :=
  { openLatch := false, shortLatch := false, overLatch := false, disabled := false, openCount := 0
    progress := 0, turnedOff := false }

/-- Lamp Protection after reset (R144), its first sample at 0 degrees (assumption 5). -/
def LampProtection.reset : LampProtection :=
  { segments := Eight.all SegmentGuard.reset, temperature := 0, lastSample := 0, thermal := .normal
    warn := false, shut := false, probe := .idle, probeStart := 0, results := Eight.all .notRun
    alert := false }

/-- A port after reset: DOWN, no HOLD either way (R159). -/
def Port.reset : Port :=
  { up := false, holdReceived := false, holdSent := false, sending := none, lastSymbol := none }

/-- Every counter 0 (R171). -/
def Counters.zero : Counters :=
  { sourceSkipped := 0, unsolicitedFrames := 0, sourceLinesAdjusted := 0, odoGlitches := 0
    triggerOverruns := 0, sensorTimeouts := 0, tetherCellErrors := 0, chainCellErrors := 0
    downForwardDiscards := 0, upForwardDiscards := 0, replyDropped := 0 }

/-- The Link Unit after reset (R159, R161, R177): only the latch RESET NOTICE (bit 14) is set. -/
def LinkUnit.reset : LinkUnit :=
  { tether := Port.reset, chain := Port.reset, position := none, ownVideo := [], management := []
    upForward := [], downForward := [], turn := .ownVideo, counters := Counters.zero
    latches := 0x4000, resetNotice := true, statusOwed := false, replyPlace := false }

/-- The defaults of TABLE 10-3. -/
def Parameters.default : Parameters :=
  { sourceWidth := 1280, sourceHeight := 1024, blackLevel := 64, darkThreshold := 256
    exposure := 2000, blurLimit := 0, triggerStep := 200, dwellTimeout := 20, dwellInterval := 200
    parkTimeout := 60, parkInterval := 10, wakeDistance := 8, brightnessTarget := 512
    tuneBand := 128, referenceBeta := 16, tuneHoldoff := 64, autoRetune := true
    ledFaultResponse := .off, ledFaultReport := .alert, thermalReport := .statusOnly
    reportMode := .everyFrame, eventMask := 0x7fff }

/-- The block right after power-on reset (R177), with no command waiting. -/
def State.reset : State :=
  { pending := [], now := 0, freeIndex := 0, params := Parameters.default
    intake := SensorIntake.reset, slots := SlotPool.reset, engine := WarpEngine.reset
    views := ViewBankStore.reset, position := PositionUnit.reset, lamps := IlluminationUnit.reset
    guard := LampProtection.reset, link := LinkUnit.reset }

end Sys2Proof.Machine
end

