-- ==== Sys2Proof/Machine/Flags.lean ====
section
/-! DEFINITION. The status bits of the block: the event latches, the judgement of the ALERT line,
and the facts the status summary of a REPLY shows. -/

namespace Sys2Proof.Machine

/-- The event kinds of TABLE 10-5. -/
inductive EventKind where
  | sourceSkipped
  | unsolicitedFrame
  | triggerOverrun
  | sensorTimeout
  | motion
  | tuneDone
  | tuneError
  | ledFault
  | thermal
  | probeDone
  | surveyDone
  | tableVerdict
  | bankSwapped
  | link
  | resetNotice
  deriving DecidableEq, Repr

/-- The order of an event kind in TABLE 10-5, which is its bit in the latches and the mask. -/
def EventKind.index (k : EventKind) : Nat :=
  match k with
  | .sourceSkipped => 0
  | .unsolicitedFrame => 1
  | .triggerOverrun => 2
  | .sensorTimeout => 3
  | .motion => 4
  | .tuneDone => 5
  | .tuneError => 6
  | .ledFault => 7
  | .thermal => 8
  | .probeDone => 9
  | .surveyDone => 10
  | .tableVerdict => 11
  | .bankSwapped => 12
  | .link => 13
  | .resetNotice => 14

/-- The latch bit of an event kind. -/
def EventKind.mark (k : EventKind) : BitVec 15 :=
  BitVec.ofNat 15 (2 ^ k.index)

/-- The latch bits of several event kinds. -/
def eventMarks (ks : List EventKind) : BitVec 15 :=
  ks.foldr (fun k acc => k.mark ||| acc) 0

/-- Whether the latch of an event kind is set (R172). -/
def State.latched (s : State) (k : EventKind) : Bool :=
  s.link.latches.getLsbD k.index

/-- A segment is faulted when any of its three fault latches is set (section 7.1). -/
def SegmentGuard.faulted (g : SegmentGuard) : Bool :=
  g.openLatch || g.shortLatch || g.overLatch

/-- Whether any segment is faulted (section 7.1). -/
def LampProtection.anyFault (g : LampProtection) : Bool :=
  g.segments.any SegmentGuard.faulted

/-- When the ALERT line is asserted (R139 cases a to d). -/
def alertLevel (params : Parameters) (g : LampProtection) : Bool :=
  decide (g.thermal = .shutdown) || g.shut
    || (g.warn && decide (params.thermalReport = .alert))
    || (g.anyFault && decide (params.ledFaultReport = .alert))

/-- Lamp Protection with its ALERT line judged afresh (R139). -/
def LampProtection.judged (g : LampProtection) (params : Parameters) : LampProtection :=
  { g with alert := alertLevel params g }

/-- Whether any bank is CHECKING (R56). -/
def ViewBankStore.anyChecking (v : ViewBankStore) : Bool :=
  decide (v.bank0.state = .checking) || decide (v.bank1.state = .checking)

/-- The effective report mode (R174, R175). -/
def State.effectiveMode (s : State) : ReportMode :=
  if s.link.resetNotice then .everyFrame else s.params.reportMode

/-- Whether the occasions for a STATUS cell are those of ON EVENT (R174 cases b and c). -/
def State.reportsOnEvent (s : State) : Bool :=
  match s.effectiveMode with
  | .everyFrame => false
  | .onEvent => true
  | .whileTravelling => decide (s.position.mode ≠ .travel)

end Sys2Proof.Machine
end

