-- ==== Sys2Proof/WellFormed.lean ====
section
/-! DEFINITION. Which commands and events are well formed: the lengths of the byte lists their
operands carry, as the layouts of section 8.8 fix them. A meaning is given to every term; an
ill-formed term is one that no cell of the part can spell. -/

namespace Sys2Proof

/-- The payload of a cell is 64 bytes (section 8.1). -/
def wfPayload (payload : List Byte) : Bool :=
  payload.length == 64

/-- A cell received whole is 70 bytes (section 8.1). -/
def wfReceived (bytes : List Byte) : Bool :=
  bytes.length == 70

/-- The label of a view header is eight characters, one byte each (TABLE 8-7). -/
def wfLabel (label : List Byte) : Bool :=
  label.length == 8

/-- TABLE DATA carries 60 bytes of entries from payload byte 4; its used length covers at least the
bytes that name the segment and at most the payload, and bytes beyond it are 0 (R146, section 8.8). -/
def wfSegment (used : Byte) (entries : List Byte) : Bool :=
  entries.length == 60 && 4 ≤ used.toNat && used.toNat ≤ 64
    && (entries.drop (used.toNat - 4)).all (· == 0)

/-- Well-formedness of a command or event. -/
def WellFormed (i : Instr) : Bool :=
  match i with
  | .commandCell _ _ _ _ payload => wfPayload payload
  | .rollCall _ _ _ _ payload => wfPayload payload
  | .upwardCellReceipt cell => wfPayload cell.payload
  | .cellError _ bytes => wfReceived bytes
  | .tableOpen _ _ _ _ _ label => wfLabel label
  | .tableData _ used _ _ _ entries => wfSegment used entries
  | .powerOnReset .. | .lineReset .. | .readIdentity .. | .readStatus .. | .readCounters ..
  | .readZoneStats .. | .readBankInfo .. | .readTableVerdict .. | .readDefectEntries ..
  | .readParameter .. | .readProbeResult .. | .readTemperature .. | .setSourceWidth ..
  | .setSourceHeight .. | .setBlackLevel .. | .setDarkThreshold .. | .setExposure ..
  | .setBlurLimit .. | .setTriggerStep .. | .setDwellTimeout .. | .setDwellInterval ..
  | .setParkTimeout .. | .setParkInterval .. | .setWakeDistance .. | .setLedCycle ..
  | .setDuty .. | .setBrightnessTarget .. | .setTuneBand .. | .setReferenceBeta ..
  | .setTuneHoldoff .. | .setAutoRetune .. | .setLedFaultResponse .. | .setLedFaultReport ..
  | .setThermalReport .. | .setReportMode .. | .setEventMask .. | .tableClose .. | .commitView ..
  | .rawView .. | .defectAdd .. | .defectRemove .. | .defectClear .. | .darkSurvey .. | .tune ..
  | .reseed .. | .probe .. | .snap .. | .zeroOdometer .. | .clearFaults .. | .ackReset ..
  | .restart .. | .hold .. | .go .. | .portUp .. | .portLockLoss .. | .portSymbolTimeout ..
  | .tetherArbiterChoice | .chainOutboundSend | .frameBegin | .line .. | .frameEnd
  | .warpFrameStart | .itemProduction | .warpFrameEnd | .odometerCount .. | .odoGlitch
  | .speedWindow | .dwellTimer | .parkTimer | .timeTrigger | .exposureEnd | .sensorTimeout
  | .readoutLimit | .senseWindowClose .. | .overcurrent .. | .thermalSample ..
  | .probeCompletion .. | .tableCheckCompletion .. => true

end Sys2Proof
end

