-- ==== Sys2Proof/Decode.lean ====
section
/-! DEFINITION. Command decode: from the payload of a consumed COMMAND cell to the command it
spells (R167, TABLE 8-7), the way back, and the host's entry point over the opcode table's bits,
which the table of this block gives to no row. -/

namespace Sys2Proof

/-- What decode makes of a COMMAND payload: a command for its owner, or the answer decode itself
gives, with the command number the REPLY carries. -/
inductive Decoded where
  | run (command : Instr)
  | answer (number : Byte) (code : ReplyCode)
  deriving DecidableEq, Repr

/-- Byte `k` of a payload. -/
def payloadByte (payload : List Byte) (k : Nat) : Byte :=
  payload.getD k 0

/-- Bytes filled with zeros to the 64 of a payload (R146). -/
def padPayload (bytes : List Byte) : List Byte :=
  bytes ++ List.replicate (64 - bytes.length) 0

/-- A payload as it is read: bytes beyond the used length are ignored and read as 0 (R146). -/
def readablePayload (used : Byte) (payload : List Byte) : List Byte :=
  padPayload ((payload.take 64).take used.toNat)

/-- Two payload bytes from byte `k`, most significant first (R146). -/
def payloadHalf (payload : List Byte) (k : Nat) : BitVec 16 :=
  payloadByte payload k ++ payloadByte payload (k + 1)

/-- Three payload bytes from byte `k`, most significant first (R146). -/
def payloadTriple (payload : List Byte) (k : Nat) : BitVec 24 :=
  payloadByte payload k ++ payloadByte payload (k + 1) ++ payloadByte payload (k + 2)

/-- Four payload bytes from byte `k`, most significant first (R146). -/
def payloadWord (payload : List Byte) (k : Nat) : Word :=
  payloadByte payload k ++ payloadByte payload (k + 1) ++ payloadByte payload (k + 2)
    ++ payloadByte payload (k + 3)

/-- The command a SET payload spells, by the parameter identifiers of TABLE 10-3. -/
def decodeSet (tag identifier segment : Byte) (value : Word) : Decoded :=
  match identifier.toNat with
  | 1 => .run (.setSourceWidth tag value)
  | 2 => .run (.setSourceHeight tag value)
  | 3 => .run (.setBlackLevel tag value)
  | 4 => .run (.setDarkThreshold tag value)
  | 5 => .run (.setExposure tag value)
  | 6 => .run (.setBlurLimit tag value)
  | 7 => .run (.setTriggerStep tag value)
  | 8 => .run (.setDwellTimeout tag value)
  | 9 => .run (.setDwellInterval tag value)
  | 10 => .run (.setParkTimeout tag value)
  | 11 => .run (.setParkInterval tag value)
  | 12 => .run (.setWakeDistance tag value)
  | 13 => .run (.setLedCycle tag value)
  | 14 => .run (.setDuty tag segment value)
  | 15 => .run (.setBrightnessTarget tag value)
  | 16 => .run (.setTuneBand tag value)
  | 17 => .run (.setReferenceBeta tag value)
  | 18 => .run (.setTuneHoldoff tag value)
  | 19 => .run (.setAutoRetune tag value)
  | 20 => .run (.setLedFaultResponse tag value)
  | 21 => .run (.setLedFaultReport tag value)
  | 22 => .run (.setThermalReport tag value)
  | 23 => .run (.setReportMode tag value)
  | 24 => .run (.setEventMask tag value)
  | _ => .answer 2 .noSuchItem

/-- The command a READ payload spells, by the items of TABLE 8-9 and the least used lengths of
TABLE 8-7. -/
def decodeRead (tag used : Byte) (p : List Byte) : Decoded :=
  match (payloadByte p 1).toNat with
  | 1 => .run (.readIdentity tag)
  | 2 => .run (.readStatus tag)
  | 3 => .run (.readCounters tag)
  | 4 => if used.toNat < 3 then .answer 1 .badValue else .run (.readZoneStats tag (payloadByte p 2))
  | 5 => .run (.readBankInfo tag)
  | 6 => .run (.readTableVerdict tag)
  | 7 => if used.toNat < 4 then .answer 1 .badValue else .run (.readDefectEntries tag (payloadHalf p 2))
  | 8 =>
    if used.toNat < 4 then .answer 1 .badValue
    else .run (.readParameter tag (payloadByte p 2) (payloadByte p 3))
  | 9 => .run (.readProbeResult tag)
  | 10 => .run (.readTemperature tag)
  | _ => .answer 1 .noSuchItem

/-- The least used length of a command by its number (TABLE 8-7); TABLE DATA is judged under R44. -/
def leastUsedLength (number : Nat) : Nat :=
  match number with
  | 1 => 2
  | 2 => 7
  | 3 => 16
  | 4 => 0
  | 5 => 2
  | 6 => 2
  | 8 => 4
  | 9 => 4
  | 10 => 2
  | 12 => 2
  | 13 => 2
  | _ => 1

/-- The command a payload of sufficient used length spells, by command number (TABLE 10-1). -/
def decodeByNumber (tag used : Byte) (p : List Byte) : Decoded :=
  match (payloadByte p 0).toNat with
  | 1 => decodeRead tag used p
  | 2 => decodeSet tag (payloadByte p 1) (payloadByte p 2) (payloadWord p 3)
  | 3 =>
    .run (.tableOpen tag (payloadByte p 1) (payloadHalf p 2) (payloadHalf p 4) (payloadHalf p 6)
      ((p.drop 8).take 8))
  | 4 =>
    .run (.tableData tag used ((payloadByte p 1).extractLsb' 4 4) ((payloadByte p 1).extractLsb' 0 4)
      (payloadHalf p 2) ((p.drop 4).take 60))
  | 5 => .run (.tableClose tag (payloadByte p 1))
  | 6 => .run (.commitView tag (payloadByte p 1))
  | 7 => .run (.rawView tag)
  | 8 =>
    .run (.defectAdd tag ((payloadTriple p 1).extractLsb' 14 10) ((payloadTriple p 1).extractLsb' 3 11)
      ((payloadTriple p 1).extractLsb' 1 2))
  | 9 =>
    .run (.defectRemove tag ((payloadTriple p 1).extractLsb' 14 10)
      ((payloadTriple p 1).extractLsb' 3 11))
  | 10 => .run (.defectClear tag (payloadByte p 1))
  | 11 => .run (.darkSurvey tag)
  | 12 => .run (.tune tag (payloadByte p 1))
  | 13 => .run (.reseed tag (payloadByte p 1))
  | 14 => .run (.probe tag)
  | 15 => .run (.snap tag)
  | 16 => .run (.zeroOdometer tag)
  | 17 => .run (.clearFaults tag)
  | 18 => .run (.ackReset tag)
  | 19 => .run (.restart tag)
  | _ => .answer (payloadByte p 0) .unknownCommand

/-- Decode of a consumed COMMAND: unknown numbers first, then the least used length, then the
command itself (R167 cases a to c). -/
def decodeCommand (tag used : Byte) (payload : List Byte) : Decoded :=
  let p := readablePayload used payload
  let number := payloadByte p 0
  if number = 0 ∨ 19 < number.toNat then .answer number .unknownCommand
  else if used.toNat < leastUsedLength number.toNat then .answer number .badValue
  else decodeByNumber tag used p

/-- A defect entry of TABLE 8-3 as a 24-bit field: row, column, method, origin. -/
def packDefectEntry (row : BitVec 10) (column : BitVec 11) (method : BitVec 2) (origin : BitVec 1) :
    BitVec 24 :=
  row ++ column ++ method ++ origin

/-- The bytes of a defect entry (TABLE 8-3). -/
def defectEntryBytes (row : BitVec 10) (column : BitVec 11) (method : BitVec 2) (origin : BitVec 1) :
    List Byte :=
  let e := packDefectEntry row column method origin
  [e.extractLsb' 16 8, e.extractLsb' 8 8, e.extractLsb' 0 8]

/-- The two bytes of a 16-bit field. -/
def halfBytes (h : BitVec 16) : List Byte :=
  [h.extractLsb' 8 8, h.extractLsb' 0 8]

/-- The four bytes of a 32-bit field. -/
def wordBytes (w : Word) : List Byte :=
  [w.extractLsb' 24 8, w.extractLsb' 16 8, w.extractLsb' 8 8, w.extractLsb' 0 8]

/-- The content of a SET command (TABLE 8-7). -/
def setContent (identifier segment : Byte) (value : Word) : List Byte :=
  [2, identifier, segment] ++ wordBytes value

/-- The payload bytes up to the used length of a command of the surface station (TABLE 8-7), with
the tag its cell carries; `none` for a row that is not a numbered command. -/
def commandContent (i : Instr) : Option (Byte × List Byte) :=
  match i with
  | .readIdentity tag => some (tag, [1, 1])
  | .readStatus tag => some (tag, [1, 2])
  | .readCounters tag => some (tag, [1, 3])
  | .readZoneStats tag segment => some (tag, [1, 4, segment])
  | .readBankInfo tag => some (tag, [1, 5])
  | .readTableVerdict tag => some (tag, [1, 6])
  | .readDefectEntries tag start => some (tag, [1, 7] ++ halfBytes start)
  | .readParameter tag identifier segment => some (tag, [1, 8, identifier, segment])
  | .readProbeResult tag => some (tag, [1, 9])
  | .readTemperature tag => some (tag, [1, 10])
  | .setSourceWidth tag v => some (tag, setContent 1 0 v)
  | .setSourceHeight tag v => some (tag, setContent 2 0 v)
  | .setBlackLevel tag v => some (tag, setContent 3 0 v)
  | .setDarkThreshold tag v => some (tag, setContent 4 0 v)
  | .setExposure tag v => some (tag, setContent 5 0 v)
  | .setBlurLimit tag v => some (tag, setContent 6 0 v)
  | .setTriggerStep tag v => some (tag, setContent 7 0 v)
  | .setDwellTimeout tag v => some (tag, setContent 8 0 v)
  | .setDwellInterval tag v => some (tag, setContent 9 0 v)
  | .setParkTimeout tag v => some (tag, setContent 10 0 v)
  | .setParkInterval tag v => some (tag, setContent 11 0 v)
  | .setWakeDistance tag v => some (tag, setContent 12 0 v)
  | .setLedCycle tag v => some (tag, setContent 13 0 v)
  | .setDuty tag segment v => some (tag, setContent 14 segment v)
  | .setBrightnessTarget tag v => some (tag, setContent 15 0 v)
  | .setTuneBand tag v => some (tag, setContent 16 0 v)
  | .setReferenceBeta tag v => some (tag, setContent 17 0 v)
  | .setTuneHoldoff tag v => some (tag, setContent 18 0 v)
  | .setAutoRetune tag v => some (tag, setContent 19 0 v)
  | .setLedFaultResponse tag v => some (tag, setContent 20 0 v)
  | .setLedFaultReport tag v => some (tag, setContent 21 0 v)
  | .setThermalReport tag v => some (tag, setContent 22 0 v)
  | .setReportMode tag v => some (tag, setContent 23 0 v)
  | .setEventMask tag v => some (tag, setContent 24 0 v)
  | .tableOpen tag bank width height fill label =>
    some (tag, [3, bank] ++ halfBytes width ++ halfBytes height ++ halfBytes fill ++ label)
  | .tableData tag used bank part number entries =>
    some (tag, ([4, bank ++ part] ++ halfBytes number ++ entries).take used.toNat)
  | .tableClose tag bank => some (tag, [5, bank])
  | .commitView tag bank => some (tag, [6, bank])
  | .rawView tag => some (tag, [7])
  | .defectAdd tag row column method => some (tag, 8 :: defectEntryBytes row column method 0)
  | .defectRemove tag row column => some (tag, 9 :: defectEntryBytes row column 0 0)
  | .defectClear tag originFilter => some (tag, [10, originFilter])
  | .darkSurvey tag => some (tag, [11])
  | .tune tag mask => some (tag, [12, mask])
  | .reseed tag mask => some (tag, [13, mask])
  | .probe tag => some (tag, [14])
  | .snap tag => some (tag, [15])
  | .zeroOdometer tag => some (tag, [16])
  | .clearFaults tag => some (tag, [17])
  | .ackReset tag => some (tag, [18])
  | .restart tag => some (tag, [19])
  | .powerOnReset .. | .lineReset .. | .commandCell .. | .rollCall .. | .upwardCellReceipt ..
  | .hold .. | .go .. | .portUp .. | .portLockLoss .. | .portSymbolTimeout ..
  | .tetherArbiterChoice | .chainOutboundSend | .frameBegin | .line .. | .frameEnd
  | .warpFrameStart | .itemProduction | .warpFrameEnd | .odometerCount .. | .odoGlitch
  | .speedWindow | .dwellTimer | .parkTimer | .timeTrigger | .exposureEnd | .sensorTimeout
  | .readoutLimit | .senseWindowClose .. | .overcurrent .. | .thermalSample ..
  | .probeCompletion .. | .tableCheckCompletion .. | .cellError .. => none

/-- The tag, used length and payload of the COMMAND cell that carries a command: the least used
length of TABLE 8-7, or the one TABLE DATA names. -/
def encodeCommand (i : Instr) : Option (Byte × Byte × List Byte) :=
  (commandContent i).map fun c => (c.1, BitVec.ofNat 8 c.2.length, padPayload c.2)

/-- The host's reading of an opcode-table word. Every row of this block's table gives its bits no
field, so no word spells a command (assumption 19). -/
def decodeTableWord (_nbits _w : Nat) : Option Instr :=
  none

end Sys2Proof
end

