-- ==== Sys2Proof/Machine/Operands.lean ====
section
/-! DEFINITION. The operand forms of commands: what a bank number, a mask, a SET value or the bytes
of a table segment name, and the codes that fields of cells carry (section 8.8). -/

namespace Sys2Proof.Machine

/-! ## Naming operands -/

/-- The bank a number names: 0 or 1, else none (R41, R44, R47, R53). -/
def bankOf (n : Nat) : Option BankId :=
  match n with
  | 0 => some .bank0
  | 1 => some .bank1
  | _ => none

/-- The segment an index names: 0..7, else none (R113, R169). -/
def segmentOf (n : Byte) : Option (Fin 8) :=
  if h : n.toNat < 8 then some ⟨n.toNat, h⟩ else none

/-- Whether a mask names segment `i` (TABLE 8-7: bit z names segment z). -/
def inMask (mask : Byte) (i : Fin 8) : Bool :=
  mask.getLsbD i.val

/-- The table part a part code names (section 8.8). -/
def partOf (n : Nat) : Option TablePart :=
  match n with
  | 1 => some .mesh
  | 2 => some .zone
  | 3 => some .gain
  | _ => none

/-- The method a method code names; 3 is not a method (TABLE 8-3). -/
def methodOf (m : BitVec 2) : Option Method :=
  match m.toNat with
  | 0 => some .h
  | 1 => some .v
  | 2 => some .q
  | _ => none

/-- Whether an origin filter is LEARNED (1) or ALL (0); other values are not a filter (TABLE 8-7). -/
def originFilterOf (f : Byte) : Option Bool :=
  match f.toNat with
  | 0 => some false
  | 1 => some true
  | _ => none

/-! ## Values of SET (R170) -/

/-- A value clamped to a range and then rounded down to a step within it (R170). -/
def takeValue (lo hi step : Nat) (value : Nat) : Nat :=
  max lo (clampNat lo hi value / step * step)

/-- The choice OFF or ON of AUTO RETUNE. -/
def autoRetuneOf (v : Nat) : Option Bool :=
  match v with
  | 0 => some false
  | 1 => some true
  | _ => none

/-- The choice of LED FAULT RESPONSE. -/
def faultResponseOf (v : Nat) : Option FaultResponse :=
  match v with
  | 0 => some .off
  | 1 => some .keep
  | _ => none

/-- The choice of LED FAULT REPORT and THERMAL REPORT. -/
def alertReportOf (v : Nat) : Option AlertReport :=
  match v with
  | 0 => some .alert
  | 1 => some .statusOnly
  | _ => none

/-- The choice of REPORT MODE. -/
def reportModeOf (v : Nat) : Option ReportMode :=
  match v with
  | 0 => some .everyFrame
  | 1 => some .onEvent
  | 2 => some .whileTravelling
  | _ => none

/-! ## Entries of a table segment (R46, TABLE 8-3) -/

/-- A mesh node of four bytes, its sx brought into range, and whether it was adjusted (R46 case c). -/
def readMeshNode (b0 b1 b2 b3 : Byte) : MeshNode × Bool :=
  let w : BitVec 32 := b0 ++ b1 ++ b2 ++ b3
  let sx := (w.extractLsb' 16 15).toNat
  ({ sx := min sx 20479, sy := (w.extractLsb' 0 14).toNat, isVoid := w.getLsbD 31 },
    decide (20479 < sx))

/-- The mesh nodes of a segment's bytes. -/
def readMesh (bytes : List Byte) : List (MeshNode × Bool) :=
  match bytes with
  | b0 :: b1 :: b2 :: b3 :: rest => readMeshNode b0 b1 b2 b3 :: readMesh rest
  | _ => []

/-- A zone entry of four bits: 0..7 a zone, 15 NONE, 8..14 stored as NONE and adjusted (R46 case b). -/
def readZoneEntry (n : BitVec 4) : Option (Fin 8) × Bool :=
  if h : n.toNat < 8 then (some ⟨n.toNat, h⟩, false) else (none, decide (n.toNat ≠ 15))

/-- The zone entries of a segment's bytes, the even cell index in bits 7..4 (TABLE 8-3). -/
def readZones (bytes : List Byte) : List (Option (Fin 8) × Bool) :=
  bytes.flatMap fun b => [readZoneEntry (b.extractLsb' 4 4), readZoneEntry (b.extractLsb' 0 4)]

/-- The gain nodes of a segment's bytes, each at most 4095 (R46 case a). -/
def readGains (bytes : List Byte) : List (Nat × Bool) :=
  match bytes with
  | b0 :: b1 :: rest =>
    let v := (b0 ++ b1 : BitVec 16).toNat
    (min v 4095, decide (4095 < v)) :: readGains rest
  | _ => []

/-! ## Codes of fields (section 8.8) -/

/-- A number as one byte. -/
def byteOf (n : Nat) : Byte :=
  BitVec.ofNat 8 n

/-- A signed number in four bytes, two's complement. -/
def signedBytes (n : Int) : List Byte :=
  bigEndian 4 (BitVec.ofInt 32 n).toNat

/-- The code of a cell kind (TABLE 8-2). -/
def kindCode (k : CellKind) : Nat :=
  match k with
  | .command => 1
  | .rollCall => 2
  | .reply => 3
  | .rollCallReply => 4
  | .status => 5
  | .frameStart => 6
  | .row => 7
  | .frameEnd => 8

/-- The kind a code names, if any (TABLE 8-2). -/
def kindOf (code : Nat) : Option CellKind :=
  match code with
  | 1 => some .command
  | 2 => some .rollCall
  | 3 => some .reply
  | 4 => some .rollCallReply
  | 5 => some .status
  | 6 => some .frameStart
  | 7 => some .row
  | 8 => some .frameEnd
  | _ => none

/-- The code of a reply code (TABLE 8-4). -/
def replyCode (c : ReplyCode) : Nat :=
  match c with
  | .done => 0
  | .accepted => 1
  | .clamped => 2
  | .busy => 3
  | .refused => 4
  | .badValue => 5
  | .noSuchItem => 6
  | .noSuchHead => 7
  | .full => 8
  | .existing => 9
  | .absent => 10
  | .unknownCommand => 11

/-- The code of a thermal state (TABLE 8-4). -/
def thermalCode (t : Thermal) : Nat :=
  match t with
  | .normal => 0
  | .derate => 1
  | .shutdown => 2

/-- The code of a cause (TABLE 8-5). -/
def causeCode (c : Cause) : Nat :=
  match c with
  | .distance => 0
  | .time => 1
  | .snap => 2
  | .survey => 3

/-- The code of a motion mode (TABLE 8-5). -/
def modeCode (m : MotionMode) : Nat :=
  match m with
  | .travel => 0
  | .dwell => 1
  | .parked => 2

/-- The code of a view (TABLE 8-5, FRAME START byte 16). -/
def viewCode (v : View) : Nat :=
  match v with
  | .bank .bank0 => 0
  | .bank .bank1 => 1
  | .raw => 2

/-- The code of a pending view change (TABLE 8-6, byte 26). -/
def pendingViewCode (v : Option View) : Nat :=
  match v with
  | none => 0
  | some view => viewCode view + 1

/-- The code of a bank state (TABLE 8-6). -/
def bankStateCode (b : BankState) : Nat :=
  match b with
  | .empty => 0
  | .opened => 1
  | .checking => 2
  | .valid => 3
  | .active => 4

/-- The code of a report mode (TABLE 8-6). -/
def reportModeCode (m : ReportMode) : Nat :=
  match m with
  | .everyFrame => 0
  | .onEvent => 1
  | .whileTravelling => 2

/-- The code of a tune state (TABLE 8-6). -/
def tuneCode (t : Tune) : Nat :=
  match t with
  | .steady => 0
  | .tuning .. => 1
  | .holdoff _ => 2

/-- The code of a tune verdict (TABLE 8-6). -/
def tuneVerdictCode (v : TuneVerdict) : Nat :=
  match v with
  | .none => 0
  | .ok => 1
  | .atTop => 2
  | .atBottom => 3
  | .offTarget => 4
  | .unseen => 5
  | .aborted => 6
  | .fault => 7

/-- The code of a probe state (TABLE 8-9, item 9). -/
def probeStateCode (p : ProbeState) : Nat :=
  match p with
  | .idle => 0
  | .waiting => 1
  | .probing => 2

/-- The code of a probe result (TABLE 8-9, item 9). -/
def probeResultCode (r : ProbeResult) : Nat :=
  match r with
  | .notRun => 0
  | .connected => 1
  | .opened => 2
  | .shorted => 3
  | .aborted => 4

/-- The code of a survey state (TABLE 8-9, item 7). -/
def surveyCode (v : Survey) : Nat :=
  match v with
  | .idle => 0
  | .armed => 1
  | .collecting .. => 2

/-- The code of a method (TABLE 8-3). -/
def methodCode (m : Method) : Nat :=
  match m with
  | .h => 0
  | .v => 1
  | .q => 2

/-- The code of an origin (TABLE 8-3). -/
def originCode (o : Origin) : Nat :=
  match o with
  | .loaded => 0
  | .learned => 1

/-- The code of a table part (section 8.8). -/
def partCode (p : TablePart) : Nat :=
  match p with
  | .mesh => 1
  | .zone => 2
  | .gain => 3

/-- A temperature as a field: plus 40, 0..190. -/
def temperatureByte (t : Int) : Byte :=
  byteOf (t + 40).toNat

end Sys2Proof.Machine
end

