-- ==== Sys2Proof/Machine/Ops.lean ====
section
/-! DEFINITION. The shared operations of the block: the updates of State by block, cells and their
check sequence, the four queues with HOLD and GO, event latching and STATUS cells, REPLY cells, the
clock, and the drive pattern of the lamps. -/

namespace Sys2Proof.Machine

/-! ## Updates of one block -/

def State.setNow (s : State) (n : Nat) : State := { s with now := n }
def State.setFreeIndex (s : State) (n : Nat) : State := { s with freeIndex := n }
def State.setParams (s : State) (x : Parameters) : State := { s with params := x }
def State.setIntake (s : State) (x : SensorIntake) : State := { s with intake := x }
def State.setSlots (s : State) (x : SlotPool) : State := { s with slots := x }
def State.setEngine (s : State) (x : WarpEngine) : State := { s with engine := x }
def State.setViews (s : State) (x : ViewBankStore) : State := { s with views := x }
def State.setPosition (s : State) (x : PositionUnit) : State := { s with position := x }
def State.setLamps (s : State) (x : IlluminationUnit) : State := { s with lamps := x }
def State.setGuard (s : State) (x : LampProtection) : State := { s with guard := x }
def State.setLink (s : State) (x : LinkUnit) : State := { s with link := x }

/-! ## Counters (R171) -/

/-- A counter advanced by `n`, stopping at its top (R171). -/
def bump (n x : Nat) : Nat :=
  satAdd Config.counterTop x n

/-- The state with its counters changed. -/
def State.count (s : State) (f : Counters → Counters) : State :=
  s.setLink { s.link with counters := f s.link.counters }

/-- One cell error on a port (R149). -/
def Counters.cellError (c : Counters) (port : PortId) : Counters :=
  match port with
  | .tether => { c with tetherCellErrors := bump 1 c.tetherCellErrors }
  | .chain => { c with chainCellErrors := bump 1 c.chainCellErrors }

/-- `n` cells lost on the way down (R153, R155, R162). -/
def Counters.downDiscard (c : Counters) (n : Nat) : Counters :=
  { c with downForwardDiscards := bump n c.downForwardDiscards }

/-- A reply for which no place was free (R167). -/
def Counters.dropReply (c : Counters) : Counters :=
  { c with replyDropped := bump 1 c.replyDropped }

/-! ## Cells (R146, R147) -/

/-- The source position a head stamps: its position, or 0 when UNASSIGNED (R146). -/
def LinkUnit.sourcePosition (l : LinkUnit) : BitVec 4 :=
  BitVec.ofNat 4 (l.position.getD 0)

/-- A cell this head creates: its source, destination 0, and the content padded to 64 bytes (R146). -/
def createCell (l : LinkUnit) (kind : CellKind) (tag : Byte) (content : List Byte) : Cell :=
  { kind, source := l.sourcePosition, dest := 0, tag, used := byteOf content.length
    payload := padPayload content }

/-- The 68 bytes of header and payload in the order they are sent (TABLE 8-2). -/
def cellBody (c : Cell) : List Byte :=
  [byteOf (kindCode c.kind), c.source ++ c.dest, c.tag, c.used] ++ c.payload

/-- One bit into the check register, generator x^16 + x^12 + x^5 + 1 (R147). -/
def crcBit (register : BitVec 16) (b : Bool) : BitVec 16 :=
  if (register.msb ^^ b) = true then (register <<< 1) ^^^ 0x1021 else register <<< 1

/-- One byte into the check register, most significant bit first (R147). -/
def crcByte (register : BitVec 16) (b : Byte) : BitVec 16 :=
  [7, 6, 5, 4, 3, 2, 1, 0].foldl (fun r k => crcBit r (b.getLsbD k)) register

/-- The check sequence of bytes: the register starts at all ones, no final inversion (R147). -/
def checkSequence (bytes : List Byte) : BitVec 16 :=
  bytes.foldl crcByte 0xffff

/-- The 70 bytes of a cell as it leaves a port (R147). -/
def cellWire (c : Cell) : List Byte :=
  cellBody c ++ halfBytes (checkSequence (cellBody c))

/-! ## Flow control (R150, R154, R156) -/

/-- A port told the HOLD sent state the head asks; the symbol goes out at each change while UP. -/
def Port.ask (p : Port) (h : Bool) : Port :=
  if p.holdSent = h then p
  else { p with holdSent := h
                lastSymbol := if p.up then some (if h then .hold else .go) else p.lastSymbol }

/-- HOLD sent of the tether port judged at the down-forward queue's count (R154). -/
def LinkUnit.judgeDownHold (l : LinkUnit) : LinkUnit :=
  if Config.downHoldAt ≤ l.downForward.length then { l with tether := l.tether.ask true }
  else if l.downForward.length ≤ Config.downGoAt then { l with tether := l.tether.ask false }
  else l

/-- HOLD sent of the chain port judged at the up-forward queue's count (R156). -/
def LinkUnit.judgeUpHold (l : LinkUnit) : LinkUnit :=
  if Config.upHoldAt ≤ l.upForward.length then { l with chain := l.chain.ask true }
  else if l.upForward.length ≤ Config.upGoAt then { l with chain := l.chain.ask false }
  else l

/-! ## The management queue (R168) -/

/-- Whether a place of the management queue is free; a place held for the REPLY of the command being
executed is not (R168, assumption 9). -/
def LinkUnit.managementFree (l : LinkUnit) : Bool :=
  decide (l.management.length + bit l.replyPlace < Config.managementCapacity)

/-- A cell placed at the end of the management queue. -/
def LinkUnit.placeManagement (l : LinkUnit) (c : Cell) : LinkUnit :=
  { l with management := l.management ++ [c] }

/-! ## STATUS cells (R173, R174) -/

/-- The view in force: the ACTIVE bank, or the raw view (R40). -/
def ViewBankStore.inForce (v : ViewBankStore) : View :=
  if v.bank0.state = .active then .bank .bank0
  else if v.bank1.state = .active then .bank .bank1
  else .raw

/-- The two STATUS bytes of a segment (TABLE 8-6, bytes 8..23). That bits 7..6 of the first are 0 is the
model's choice (assumption 36). -/
def segmentStatus (g : SegmentGuard) (d : SegmentDrive) : List Byte :=
  [byteOf (bit g.openLatch + 2 * bit g.shortLatch + 4 * bit g.overLatch + 8 * bit g.disabled
      + 16 * tuneCode d.tune),
    byteOf (tuneVerdictCode d.verdict)]

/-- The content of a STATUS cell built from the present state, with given event latches (R173,
TABLE 8-6). That bits 7..2 of the last byte are 0 is the model's choice (assumption 36). -/
def statusContent (s : State) (latches : BitVec 15) : List Byte :=
  [byteOf (thermalCode s.guard.thermal), temperatureByte s.guard.temperature,
    byteOf (modeCode s.position.mode)]
    ++ signedBytes s.position.p
    ++ [byteOf (reportModeCode s.effectiveMode)]
    ++ (Eight.build fun i => segmentStatus (s.guard.segments.get i) (s.lamps.segments.get i)).toList.flatten
    ++ [byteOf (bankStateCode s.views.bank0.state), byteOf (bankStateCode s.views.bank1.state),
      byteOf (viewCode s.views.inForce + 16 * pendingViewCode s.views.pendingView)]
    ++ bigEndian 2 latches.toNat
    ++ [byteOf (bit s.guard.warn + 2 * bit s.guard.shut)]

/-- Whether a cell is a STATUS cell. -/
def isStatus (c : Cell) : Bool :=
  decide (c.kind = .status)

/-- The event latches a STATUS cell carries (TABLE 8-6, bytes 27..28). -/
def carriedLatches (c : Cell) : BitVec 15 :=
  (payloadHalf c.payload 27).setWidth 15

/-- A waiting STATUS cell rebuilt from the present state: the latches it held and those now set, its
header and place kept (R173). -/
def rebuildStatus (s : State) (c : Cell) : Cell :=
  { c with payload := padPayload (statusContent s (carriedLatches c ||| s.link.latches)) }

/-- The Link Unit with a STATUS cell built and queued, the latches it carries cleared (R173). -/
def queueStatus (s : State) : LinkUnit :=
  { s.link.placeManagement (createCell s.link .status 0 (statusContent s s.link.latches)) with
    latches := 0 }

/-- The Link Unit after an occasion for a STATUS cell: merged into the waiting one, left to the one
owed, queued, or owed (R168, R173). -/
def statusOccasion (s : State) : LinkUnit :=
  if s.link.management.any isStatus then
    { s.link with
      management := s.link.management.map fun c => if isStatus c then rebuildStatus s c else c
      latches := 0 }
  else if s.link.statusOwed then s.link
  else if s.link.managementFree then queueStatus s
  else { s.link with statusOwed := true }

/-- Event latches set, with no occasion judged (R172). -/
def State.setLatches (s : State) (ks : List EventKind) : State :=
  s.setLink { s.link with latches := s.link.latches ||| eventMarks ks }

/-- Whether the latching of events calls for a STATUS cell at once: an enabled one, under the
occasions of ON EVENT, while the Warp Engine is IDLE (R174 case b). That an event whose latch is already
set is such a latching too is the model's choice (assumption 32). -/
def latchingCalls (s : State) (ks : List EventKind) : Bool :=
  s.engine.run.isNone && s.reportsOnEvent && decide (eventMarks ks &&& s.params.eventMask ≠ 0)

/-- Events latched at the block that owns them, with the STATUS occasion they make (R172, R174). -/
def State.latch (s : State) (ks : List EventKind) : State :=
  if latchingCalls s ks then (s.setLatches ks).setLink (statusOccasion (s.setLatches ks))
  else s.setLatches ks

/-- One event latched when a condition holds. -/
def eventIf (b : Bool) (k : EventKind) : List EventKind :=
  if b then [k] else []

/-- Whether a FRAME END queued now is an occasion for a STATUS cell (R174 cases a to c). -/
def frameEndCalls (s : State) : Bool :=
  !s.reportsOnEvent || decide (s.link.latches &&& s.params.eventMask ≠ 0)

/-! ## REPLY cells (R167) -/

/-- What the owner of a command answers: its code and the content from payload byte 3. -/
structure Answer where
  code : ReplyCode
  content : List Byte
  deriving DecidableEq, Repr

/-- An answer without content. -/
def Answer.bare (code : ReplyCode) : Answer :=
  { code, content := [] }

/-- The summary byte of a REPLY or presence record built now (TABLE 8-4, byte 2). That bits 7..5 are 0 is
the model's choice (assumption 36). -/
def State.summary (s : State) : Byte :=
  byteOf (bit s.guard.anyFault + 2 * thermalCode s.guard.thermal + 8 * bit s.link.resetNotice
    + 16 * bit s.views.anyChecking)

/-- The REPLY to a command, created now (R167, TABLE 8-4). -/
def replyCell (s : State) (tag number : Byte) (a : Answer) : Cell :=
  createCell s.link .reply tag ([number, byteOf (replyCode a.code), s.summary] ++ a.content)

/-- The state with the REPLY placed in the place held for it (R167). -/
def State.placeReply (s : State) (tag number : Byte) (a : Answer) : State :=
  s.setLink { s.link.placeManagement (replyCell s tag number a) with replyPlace := false }

/-- The state with a place of the management queue held for a REPLY (R167). -/
def State.holdReplyPlace (s : State) : State :=
  s.setLink { s.link with replyPlace := true }

/-- A consumed command executed by its owner: discarded and counted when no place is free for its
REPLY, else carried out and answered (R167). -/
def consume (tag number : Byte) (owner : State → Answer × State) (s : State) : State :=
  if s.link.managementFree then
    (owner s.holdReplyPlace).2.placeReply tag number (owner s.holdReplyPlace).1
  else s.count Counters.dropReply

/-! ## Slots -/

/-- A slot of the pool. -/
def SlotPool.get (p : SlotPool) (i : SlotId) : Slot :=
  match i with
  | .slot0 => p.slot0
  | .slot1 => p.slot1
  | .slot2 => p.slot2

/-- The pool with a slot replaced. -/
def SlotPool.set (p : SlotPool) (i : SlotId) (x : Slot) : SlotPool :=
  match i with
  | .slot0 => { p with slot0 := x }
  | .slot1 => { p with slot1 := x }
  | .slot2 => { p with slot2 := x }

/-- A slot with its frame record changed. -/
def Slot.mapRecord (x : Slot) (f : FrameRecord → FrameRecord) : Slot :=
  { x with record := x.record.map f }

/-! ## Banks -/

/-- A bank of the store. -/
def ViewBankStore.get (v : ViewBankStore) (b : BankId) : Bank :=
  match b with
  | .bank0 => v.bank0
  | .bank1 => v.bank1

/-- The store with a bank replaced. -/
def ViewBankStore.set (v : ViewBankStore) (b : BankId) (x : Bank) : ViewBankStore :=
  match b with
  | .bank0 => { v with bank0 := x }
  | .bank1 => { v with bank1 := x }

/-! ## Drive pattern and clock -/

/-- The on-steps of a segment at duty `d` in the first `t` steps of a window: in each cycle of
`2^n` steps the first `d` (R109). -/
def onSteps (n d t : Nat) : Nat :=
  t / 2 ^ n * d + min (t % 2 ^ n) d

/-- The steps from a window's opening to the close of the sense window of a segment at duty `d`,
d above 0: the step that brings its on-steps to 960 (R130). -/
def senseCloseStep (n d : Nat) : Nat :=
  (Config.senseSteps - 1) / d * 2 ^ n + ((Config.senseSteps - 1) % d + 1)

/-- The sense progress of a segment after `elapsed` steps of the window; passing time brings it up
to the step before the close, the close itself is an event of its own (R130, assumption 14). -/
def progressAt (n elapsed : Nat) (g : SegmentGuard) (d : SegmentDrive) : SegmentGuard :=
  if g.turnedOff || decide (Config.senseSteps ≤ g.progress) then g
  else
    { g with
      progress := max g.progress (min (Config.senseSteps - 1) (onSteps n d.applied elapsed)) }

/-- The exposure in progress, whose window is open (R109). -/
def PositionUnit.openWindow (u : PositionUnit) : Option CurrentExposure :=
  if u.sequencer = .exposing then u.current else none

/-- The steps of an exposure's window (R109). -/
def CurrentExposure.windowSteps (e : CurrentExposure) : Nat :=
  Config.microseconds e.eEff

/-- Lamp Protection with the sense progress of each segment at moment `now` (R130). -/
def LampProtection.progressed (g : LampProtection) (now : Nat) (u : PositionUnit)
    (lamps : IlluminationUnit) : LampProtection :=
  match u.openWindow with
  | none => g
  | some e =>
    { g with
      segments := Eight.build fun i =>
        progressAt lamps.cycle (min (now - e.start) e.windowSteps) (g.segments.get i)
          (lamps.segments.get i) }

/-- The record of the exposure in progress changed wherever it stands: outstanding, or attached to
the slot that claimed it; a record already discarded or released is not (R134 case b, R138 case c). -/
def State.markExposure (s : State) (f : FrameRecord → FrameRecord) : State :=
  match s.position.openWindow with
  | none => s
  | some e =>
    match s.position.outstanding, e.slot with
    | some r, _ => s.setPosition { s.position with outstanding := some (f r) }
    | none, some i => s.setSlots (s.slots.set i ((s.slots.get i).mapRecord f))
    | none, none => s

/-- The clock moved on to moment `t`, or left where it is when `t` is past (assumption 2). -/
def State.advanceTo (s : State) (t : Nat) : State :=
  (s.setNow (max s.now t)).setGuard (s.guard.progressed (max s.now t) s.position s.lamps)

/-- What passes when no command waits: one step of the 48 MHz timebase (assumption 1). -/
def State.tick (s : State) : State :=
  s.advanceTo (s.now + 1)

/-- The next free choice of an open order, and the state that has used it (assumption 7). -/
def State.takeFree (s : State) : State :=
  s.setFreeIndex (s.freeIndex + 1)

end Sys2Proof.Machine
end

