-- ==== Sys2Proof/Machine/Illumination.lean ====
section
/-! DEFINITION. The Illumination Unit (Chapter 6): the drive of the segments, the LED cycle length,
applied duties and trial markers, tunes, references, and the commands TUNE, RESEED and SET of DUTY. -/

namespace Sys2Proof.Machine

/-! ## Drive (R109) -/

/-- Whether a segment is lit at the present moment (R109). -/
def State.segmentLit (s : State) (i : Fin 8) : Bool :=
  match s.position.openWindow with
  | none => false
  | some e =>
    decide (s.now - e.start < e.windowSteps) && !(s.guard.segments.get i).turnedOff
      && decide ((s.now - e.start) % 2 ^ s.lamps.cycle < (s.lamps.segments.get i).applied)

/-! ## Tunes of one segment -/

/-- Whether a segment is TUNING. -/
def SegmentDrive.isTuning (d : SegmentDrive) : Bool :=
  match d.tune with
  | .tuning .. => true
  | .steady => false
  | .holdoff _ => false

/-- Whether any segment is TUNING. -/
def IlluminationUnit.anyTuning (u : IlluminationUnit) : Bool :=
  u.segments.any SegmentDrive.isTuning

/-- A tune started: half duty staged as trial 1, the staged duty saved (R116). -/
def SegmentDrive.startTune (d : SegmentDrive) (n : Nat) : SegmentDrive :=
  { d with staged := 2 ^ (n - 1), tune := .tuning 1 (2 ^ (n - 1)) none d.staged }

/-- HOLDOFF entered with a count; a count of 0 ends at the entry (R122). -/
def holdoffFor (count : Nat) : Tune :=
  if count = 0 then .steady else .holdoff count

/-- A tune aborted: the pre-tune duty restored, verdict ABORTED (R123). A segment that is not TUNING
is not touched. -/
def SegmentDrive.abortTune (d : SegmentDrive) : SegmentDrive :=
  match d.tune with
  | .tuning _ _ _ preTune => { d with staged := preTune, tune := .steady, verdict := .aborted }
  | .steady => d
  | .holdoff _ => d

/-- A tune ended by a fault on its segment (R124). -/
def SegmentDrive.faultTune (d : SegmentDrive) (holdoff : Nat) : SegmentDrive :=
  match d.tune with
  | .tuning _ _ _ preTune =>
    { d with staged := preTune, tune := holdoffFor holdoff, verdict := .fault }
  | .steady => d
  | .holdoff _ => d

/-- Every tune in progress aborted (R123). -/
def IlluminationUnit.abortTunes (u : IlluminationUnit) : IlluminationUnit :=
  { u with segments := u.segments.map SegmentDrive.abortTune }

/-! ## Cycle length, applied duties and markers at an exposure start -/

/-- A staged duty rescaled from cycle length `n` to `n'` (R111 case b). -/
def rescaleDuty (d n n' : Nat) : Nat :=
  d * 2 ^ n' / 2 ^ n

/-- Whether an exposure start finds a pending cycle length different from the one in force (R111). -/
def IlluminationUnit.cycleChanges (u : IlluminationUnit) : Bool :=
  match u.pendingCycle with
  | none => false
  | some n' => decide (n' ≠ u.cycle)

/-- The pending cycle length taken up at an exposure start: tunes aborted, staged duties rescaled; a
value equal to the one in force is only cleared (R110, R111). -/
def IlluminationUnit.takeUpCycle (u : IlluminationUnit) : IlluminationUnit :=
  match u.pendingCycle with
  | none => u
  | some n' =>
    if n' = u.cycle then { u with pendingCycle := none }
    else
      { cycle := n', pendingCycle := none
        segments := u.segments.map fun d =>
          { d.abortTune with staged := rescaleDuty d.abortTune.staged u.cycle n' } }

/-- The applied duty of a segment for an exposure (R114). -/
def appliedDuty (n : Nat) (survey disabled : Bool) (thermal : Thermal) (staged : Nat) : Nat :=
  if survey || disabled || decide (thermal = .shutdown) then 0
  else if thermal = .derate then min staged (2 ^ (n - 1))
  else staged

/-- The trial marker a segment gives an exposure; a SURVEY exposure carries none (R118). -/
def SegmentDrive.marker (d : SegmentDrive) (survey : Bool) : Option Nat :=
  match d.tune with
  | .tuning trial _ _ _ => if survey then none else some trial
  | .steady => none
  | .holdoff _ => none

/-- The first exposure of a trial taken when it is absent (R118). -/
def SegmentDrive.noteExposure (d : SegmentDrive) (survey : Bool) (sequence : BitVec 16) : SegmentDrive :=
  match d.tune with
  | .tuning trial duty none preTune =>
    if survey then d else { d with tune := .tuning trial duty (some sequence) preTune }
  | .tuning _ _ (some _) _ => d
  | .steady => d
  | .holdoff _ => d

/-- A segment as an exposure starts: its applied duty formed, its trial noted (R114, R118). -/
def SegmentDrive.exposed (d : SegmentDrive) (n : Nat) (survey disabled : Bool) (thermal : Thermal)
    (sequence : BitVec 16) : SegmentDrive :=
  { d.noteExposure survey sequence with applied := appliedDuty n survey disabled thermal d.staged }

/-- The Illumination Unit as an exposure starts, any change of cycle taken up (R111, R114, R118). -/
def IlluminationUnit.exposed (u : IlluminationUnit) (survey : Bool) (g : LampProtection)
    (sequence : BitVec 16) : IlluminationUnit :=
  { u.takeUpCycle with
    segments := Eight.build fun i =>
      (u.takeUpCycle.segments.get i).exposed u.takeUpCycle.cycle survey (g.segments.get i).disabled
        g.thermal sequence }

/-- The eight trial markers of an exposure (R118). -/
def IlluminationUnit.markers (u : IlluminationUnit) (survey : Bool) : Eight (Option Nat) :=
  u.takeUpCycle.segments.map fun d => d.marker survey

/-! ## A frame handed over (R119 to R126) -/

/-- What the hand-over of a frame judges segments by: the record and the settings in force. -/
structure HandOver where
  n : Nat
  target : Nat
  band : Nat
  beta : Nat
  holdoff : Nat
  autoRetune : Bool
  thermal : Thermal
  record : FrameRecord
  deriving DecidableEq, Repr

/-- A segment after a hand-over, with the events its tune latches. -/
structure SegmentOutcome where
  drive : SegmentDrive
  tuneDone : Bool
  tuneError : Bool
  deriving DecidableEq, Repr

/-- A segment that latches nothing. -/
def SegmentOutcome.quiet (d : SegmentDrive) : SegmentOutcome :=
  { drive := d, tuneDone := false, tuneError := false }

/-- The distance of a brightness from the target (R121, R126). -/
def HandOver.offTarget (c : HandOver) (m : Nat) : Nat :=
  ((m : Int) - (c.target : Int)).natAbs

/-- Half-width of the band: Bw = floor(TUNE BAND / 8) (R121). -/
def HandOver.halfBand (c : HandOver) : Nat :=
  c.band / 8

/-- Whether a frame counts as the frame of a segment's trial (R119 cases a and b): it carries the
trial's marker, and its exposure is the first of the trial or less than 32768 later. -/
def HandOver.counts (c : HandOver) (marker : Option Nat) (trial : Nat) (first : Option (BitVec 16)) :
    Bool :=
  match first with
  | none => false
  | some f => decide (marker = some trial) && decide ((c.record.sequence - f).toNat < 32768)

/-- The verdict at trial N (R121). -/
def HandOver.verdict (c : HandOver) (duty m : Nat) : TuneVerdict :=
  if duty = 2 ^ c.n - 1 ∧ m < c.target then .atTop
  else if duty = 1 ∧ c.target < m then .atBottom
  else if c.halfBand < c.offTarget m then .offTarget
  else .ok

/-- The duty of the next trial: up by the halving step when below target, down when not (R120). -/
def HandOver.nextDuty (c : HandOver) (trial duty : Nat) (z : ZoneResult) : Nat :=
  if z.mean < c.target ∧ z.glare = false then duty + 2 ^ (c.n - 1 - trial)
  else duty - 2 ^ (c.n - 1 - trial)

/-- A tune ended at trial N with its verdict (R121). -/
def HandOver.finishTune (c : HandOver) (d : SegmentDrive) (duty : Nat) (z : ZoneResult) :
    SegmentOutcome :=
  if c.verdict duty z.mean = .ok then
    { drive := { d with tune := .steady, verdict := .ok, reference := z.mean, reseed := false
                        final := some (duty, z.mean) }
      tuneDone := true, tuneError := false }
  else
    { drive := { d with tune := holdoffFor c.holdoff, verdict := c.verdict duty z.mean
                        final := some (duty, z.mean) }
      tuneDone := true, tuneError := true }

/-- A frame that counts for a trial, judged (R120). -/
def HandOver.judgeTrial (c : HandOver) (d : SegmentDrive) (trial duty preTune : Nat)
    (z : ZoneResult) : SegmentOutcome :=
  if z.unseen then
    { drive := { d with staged := preTune, tune := holdoffFor c.holdoff, verdict := .unseen }
      tuneDone := true, tuneError := true }
  else if trial < c.n then
    .quiet { d with staged := c.nextDuty trial duty z
                    tune := .tuning (trial + 1) (c.nextDuty trial duty z) none preTune }
  else c.finishTune d duty z

/-- The reference moved toward a zone mean: R + floor(((M - R) × β + 128) / 256) (R125). -/
def HandOver.movedReference (c : HandOver) (r m : Nat) : Nat :=
  ((r : Int) + (((m : Int) - (r : Int)) * (c.beta : Int) + 128) / 256).toNat

/-- Whether a frame may update a STEADY segment's reference (R125). -/
def HandOver.usable (c : HandOver) (marker : Option Nat) (z : ZoneResult) : Bool :=
  !c.record.dark && !z.unseen && !z.glare && marker.isNone

/-- A STEADY segment's reference after a frame: seeded, filtered, or left (R125, R127). -/
def HandOver.followed (c : HandOver) (marker : Option Nat) (d : SegmentDrive) (z : ZoneResult) :
    SegmentDrive :=
  if c.usable marker z then
    if d.reseed then { d with reference := z.mean, reseed := false }
    else { d with reference := c.movedReference d.reference z.mean }
  else d

/-- Whether a STEADY segment starts a tune on itself after its reference update (R126). -/
def HandOver.retunes (c : HandOver) (disabled : Bool) (d : SegmentDrive) (z : ZoneResult) : Bool :=
  c.autoRetune && decide (c.halfBand < c.offTarget d.reference) && !c.record.dark && !z.unseen
    && !d.reseed && !disabled && decide (c.thermal = .normal)

/-- A STEADY segment after a frame (R125 to R127). -/
def HandOver.steadyFrame (c : HandOver) (marker : Option Nat) (disabled : Bool) (d : SegmentDrive)
    (z : ZoneResult) : SegmentOutcome :=
  if c.retunes disabled (c.followed marker d z) z then
    .quiet ((c.followed marker d z).startTune c.n)
  else .quiet (c.followed marker d z)

/-- A segment taken up by its tune state as a frame is handed over (R119, R122). -/
def HandOver.segment (c : HandOver) (marker : Option Nat) (disabled : Bool) (d : SegmentDrive)
    (z : ZoneResult) : SegmentOutcome :=
  match d.tune with
  | .tuning trial duty first preTune =>
    if c.counts marker trial first then c.judgeTrial d trial duty preTune z else .quiet d
  | .holdoff remaining => .quiet { d with tune := holdoffFor (remaining - 1) }
  | .steady => c.steadyFrame marker disabled d z

/-- The hand-over of a frame record under the settings in force. -/
def State.handOver (s : State) (record : FrameRecord) : HandOver :=
  { n := s.lamps.cycle, target := s.params.brightnessTarget, band := s.params.tuneBand
    beta := s.params.referenceBeta, holdoff := s.params.tuneHoldoff
    autoRetune := s.params.autoRetune, thermal := s.guard.thermal, record }

/-- The eight segments after a hand-over. -/
def State.handOverOutcomes (s : State) (record : FrameRecord) (zones : Eight ZoneResult) :
    Eight SegmentOutcome :=
  Eight.build fun i =>
    (s.handOver record).segment (record.markers.get i) (s.guard.segments.get i).disabled
      (s.lamps.segments.get i) (zones.get i)

/-- A frame's record and zone results handed to the Illumination Unit (R32 case b, R119). -/
def State.handFrame (s : State) (record : FrameRecord) (zones : Eight ZoneResult) : State :=
  (s.setLamps { s.lamps with segments := (s.handOverOutcomes record zones).map SegmentOutcome.drive }).latch
    (eventIf ((s.handOverOutcomes record zones).any SegmentOutcome.tuneDone) .tuneDone
      ++ eventIf ((s.handOverOutcomes record zones).any SegmentOutcome.tuneError) .tuneError)

/-! ## TUNE, RESEED and SET of DUTY -/

/-- The outcomes of TUNE for a segment (TABLE 8-8). -/
inductive TuneOutcome where
  | notInMask
  | started
  | inProgress
  | fault
  | derated
  deriving DecidableEq, Repr

/-- The code of a TUNE outcome (TABLE 8-8). -/
def tuneOutcomeCode (o : TuneOutcome) : Nat :=
  match o with
  | .notInMask => 0
  | .started => 1
  | .inProgress => 2
  | .fault => 3
  | .derated => 4

/-- The outcome of TUNE for a segment (R117). -/
def tuneOutcome (thermal : Thermal) (masked disabled : Bool) (d : SegmentDrive) : TuneOutcome :=
  if masked then
    if thermal ≠ .normal then .derated
    else if disabled then .fault
    else if d.isTuning then .inProgress
    else .started
  else .notInMask

/-- A segment after TUNE gave it an outcome (R117). -/
def SegmentDrive.tuned (d : SegmentDrive) (n : Nat) (o : TuneOutcome) : SegmentDrive :=
  match o with
  | .notInMask => d
  | .started => d.startTune n
  | .inProgress => d
  | .fault => { d with verdict := .fault }
  | .derated => d

/-- The eight outcomes of TUNE. -/
def State.tuneOutcomes (s : State) (mask : Byte) : Eight TuneOutcome :=
  Eight.build fun i =>
    tuneOutcome s.guard.thermal (inMask mask i) (s.guard.segments.get i).disabled
      (s.lamps.segments.get i)

/-- The reply code of TUNE (R117). -/
def State.tuneCode (s : State) (mask : Byte) : ReplyCode :=
  if s.guard.thermal ≠ .normal then .refused
  else if (s.tuneOutcomes mask).any (· = .started) then .accepted
  else .done

/-- TUNE by its owner (R117). -/
def ownTune (mask : Byte) (s : State) : Answer × State :=
  ({ code := s.tuneCode mask
     content := ((s.tuneOutcomes mask).map fun o => byteOf (tuneOutcomeCode o)).toList },
    (s.setLamps { s.lamps with
      segments := Eight.build fun i =>
        (s.lamps.segments.get i).tuned s.lamps.cycle ((s.tuneOutcomes mask).get i) }).latch
      (if (s.tuneOutcomes mask).any (· = .fault) then [.tuneDone, .tuneError] else []))

/-- RESEED by its owner (R127). -/
def ownReseed (mask : Byte) (s : State) : Answer × State :=
  (.bare .done,
    s.setLamps { s.lamps with
      segments := Eight.build fun i =>
        if inMask mask i then { s.lamps.segments.get i with reseed := true }
        else s.lamps.segments.get i })

/-- The content of a SET reply (TABLE 8-8). -/
def setReplyContent (identifier segment : Byte) (taken : Nat) : List Byte :=
  [identifier, segment] ++ bigEndian 4 taken

/-- The answer to a SET of a numeric parameter whose value was `value` and is taken as `taken` (R170). -/
def setAnswer (identifier segment : Byte) (value taken : Nat) : Answer :=
  { code := if taken = value then .done else .clamped
    content := setReplyContent identifier segment taken }

/-- SET of DUTY by its owner (R113): the duty clamped to the cycle in force, the segment's tune
aborted, the duty staged. -/
def ownSetDuty (segment : Byte) (value : Word) (s : State) : Answer × State :=
  match segmentOf segment with
  | none => (.bare .badValue, s)
  | some i =>
    (setAnswer 14 segment value.toNat (min value.toNat (2 ^ s.lamps.cycle)),
      (s.setLamps { s.lamps with
        segments := s.lamps.segments.set i
          { (s.lamps.segments.get i).abortTune with
            staged := min value.toNat (2 ^ s.lamps.cycle) } }).latch
        (eventIf (s.lamps.segments.get i).isTuning .tuneDone))

/-- SET of LED CYCLE by its owner: the value becomes the pending cycle length (R110). -/
def ownSetLedCycle (value : Word) (s : State) : Answer × State :=
  (setAnswer 13 0 value.toNat (takeValue 8 11 1 value.toNat),
    s.setLamps { s.lamps with pendingCycle := some (takeValue 8 11 1 value.toNat) })

/-- TUNE (R117). -/
def execTune (tag mask : Byte) (s : State) : Host.Outcome State Fault Refusal :=
  .next (consume tag 12 (ownTune mask) s)

/-- RESEED (R127). -/
def execReseed (tag mask : Byte) (s : State) : Host.Outcome State Fault Refusal :=
  .next (consume tag 13 (ownReseed mask) s)

/-- SET of DUTY (R113). -/
def execSetDuty (tag segment : Byte) (value : Word) (s : State) :
    Host.Outcome State Fault Refusal :=
  .next (consume tag 2 (ownSetDuty segment value) s)

/-- SET of LED CYCLE (R110). -/
def execSetLedCycle (tag : Byte) (value : Word) (s : State) : Host.Outcome State Fault Refusal :=
  .next (consume tag 2 (ownSetLedCycle value) s)

end Sys2Proof.Machine
end

