-- ==== Sys2Proof/Machine/Protection.lean ====
section
/-! DEFINITION. Lamp Protection (Chapter 7): sensing and its tests, over-current, the thermal state,
the probe, the ALERT line, CLEAR FAULTS and the settings of fault response and reporting. -/

namespace Sys2Proof.Machine

/-! ## Detections (R134, R135) -/

/-- The effects of a detection on a segment whose latch has just been set (R134): the record flagged,
its tune ended with FAULT, ALERT judged afresh, the events latched. -/
def State.detect (s : State) (i : Fin 8) : State :=
  let t := s.markExposure fun r => { r with ledFault := true }
  ((t.setLamps { t.lamps with
      segments := t.lamps.segments.set i ((t.lamps.segments.get i).faultTune t.params.tuneHoldoff)
    }).setGuard (t.guard.judged t.params)).latch
    (.ledFault :: if (t.lamps.segments.get i).isTuning then [.tuneDone, .tuneError] else [])

/-- Whether a segment is lit in the window in progress: a duty above 0, not turned off (R109). -/
def State.drivenInWindow (s : State) (i : Fin 8) : Bool :=
  s.position.openWindow.isSome && decide (0 < (s.lamps.segments.get i).applied)
    && !(s.guard.segments.get i).turnedOff

/-- The window in which a segment's sense window still has to close (R130). -/
def State.sensedWindow (s : State) (i : Fin 8) : Option CurrentExposure :=
  match s.position.openWindow with
  | none => none
  | some e =>
    if s.drivenInWindow i = true ∧ (s.guard.segments.get i).progress < Config.senseSteps
        ∧ Config.senseSteps ≤ onSteps s.lamps.cycle (s.lamps.segments.get i).applied e.windowSteps then
      some e
    else none

/-- Whether the open test finds an open string: the current below the threshold throughout, in a
second consecutive sensed exposure (R131). -/
def SegmentGuard.findsOpen (g : SegmentGuard) (peakCurrent : Nat) : Bool :=
  decide (peakCurrent < Config.openThreshold) && decide (g.openCount = 1)

/-- Whether the short test finds a shorted string (R132). -/
def findsShort (voltage : Nat) : Bool :=
  decide (voltage < Config.shortThreshold)

/-- A segment after the tests at the close of its sense window (R131, R132, R135). -/
def SegmentGuard.tested (g : SegmentGuard) (response : FaultResponse) (peakCurrent voltage : Nat) :
    SegmentGuard :=
  { g with
    progress := Config.senseSteps
    openCount := if peakCurrent < Config.openThreshold ∧ g.openCount = 0 then 1 else 0
    openLatch := g.openLatch || g.findsOpen peakCurrent
    shortLatch := g.shortLatch || findsShort voltage
    disabled := g.disabled
      || ((g.findsOpen peakCurrent || findsShort voltage) && decide (response = .off)) }

/-- The close of a segment's sense window, with its tests (R130 to R132). -/
def State.closeSense (s : State) (i : Fin 8) (peakCurrent voltage : Nat) : State :=
  let t := s.setGuard { s.guard with
    segments := s.guard.segments.set i
      ((s.guard.segments.get i).tested s.params.ledFaultResponse peakCurrent voltage) }
  if (s.guard.segments.get i).findsOpen peakCurrent || findsShort voltage then t.detect i else t

/-- SENSE WINDOW CLOSE (R130). -/
def execSenseWindowClose (i : Fin 8) (peakCurrent voltage : Nat) (s : State) :
    Host.Outcome State Fault Refusal :=
  .next (match s.sensedWindow i with
    | none => s
    | some e =>
      (s.advanceTo (e.start + senseCloseStep s.lamps.cycle (s.lamps.segments.get i).applied)).closeSense
        i peakCurrent voltage)

/-- A segment found over the current limit: off for the rest of the window, latched, DISABLED (R133). -/
def SegmentGuard.overcurrent (g : SegmentGuard) : SegmentGuard :=
  { g with turnedOff := true, overLatch := true, disabled := true }

/-- OVERCURRENT: the comparison is made at the on-steps of a segment alone (R133). -/
def execOvercurrent (i : Fin 8) (current : Nat) (s : State) : Host.Outcome State Fault Refusal :=
  .next (
    if s.segmentLit i = true ∧ Config.currentLimit < current then
      (s.setGuard { s.guard with
        segments := s.guard.segments.set i (s.guard.segments.get i).overcurrent }).detect i
    else s)

/-! ## Thermal state (R136 to R138) -/

/-- The thermal state after a sample (TABLE 7-4). -/
def thermalNext (before : Thermal) (sample : Int) : Thermal :=
  match before with
  | .normal => if 125 ≤ sample then .shutdown else if 105 ≤ sample then .derate else .normal
  | .derate => if 125 ≤ sample then .shutdown else if sample < 95 then .normal else .derate
  | .shutdown => if sample < 115 then .derate else .shutdown

/-- Every segment turned off for the rest of the window in progress (R138 case c). -/
def LampProtection.blackout (g : LampProtection) : LampProtection :=
  { g with segments := g.segments.map fun x => { x with turnedOff := true } }

/-- Entry to SHUTDOWN while an exposure window is open (R138 case c). -/
def State.cutWindow (s : State) : State :=
  match s.position.openWindow with
  | none => s
  | some _ =>
    (s.setGuard s.guard.blackout).markExposure fun r => { r with shutdown := true }

/-- A change of thermal state: latches set, tunes aborted and the window cut as the new state asks,
ALERT judged, the events latched (R137, R138, R123 case c). -/
def State.enterThermal (s : State) (thermal : Thermal) : State :=
  let g := { s.guard with
    thermal
    warn := s.guard.warn || decide (thermal = .derate)
    shut := s.guard.shut || decide (thermal = .shutdown) }
  let t := if thermal = .shutdown then (s.setGuard g).cutWindow else s.setGuard g
  let u := if thermal = .normal then t else t.setLamps t.lamps.abortTunes
  (u.setGuard (u.guard.judged u.params)).latch
    (.thermal :: eventIf (decide (thermal ≠ .normal) && s.lamps.anyTuning) .tuneDone)

/-- A temperature sample held and judged (R136, R137). -/
def State.sampled (s : State) (temperature : Int) : State :=
  let c := clampInt (-40) 150 temperature
  let t := s.setGuard { s.guard with temperature := c }
  if thermalNext s.guard.thermal c = s.guard.thermal then t
  else t.enterThermal (thermalNext s.guard.thermal c)

/-- THERMAL SAMPLE: the sample due 10 ms after the one before (R136). -/
def execThermalSample (temperature : Int) (s : State) : Host.Outcome State Fault Refusal :=
  .next (
    let due := s.guard.lastSample + Config.milliseconds 10
    let t := s.advanceTo due
    (t.setGuard { t.guard with lastSample := due }).sampled temperature)

/-! ## The probe (R141 to R143) -/

/-- A probe started now (R142). -/
def State.startProbe (s : State) : State :=
  s.setGuard { s.guard with probe := .probing, probeStart := s.now }

/-- Lamp Protection with a running probe aborted (R143, R145 case b). -/
def LampProtection.abortProbe (g : LampProtection) : LampProtection :=
  if g.probe = .probing then { g with probe := .idle, results := Eight.all .aborted } else g

/-- What a probe finds of a string (R142). -/
def probeFinding (r : StringReading) : ProbeResult :=
  if r.current < Config.openThreshold then .opened
  else if r.voltage < Config.shortThreshold then .shorted
  else .connected

/-- PROBE COMPLETION (R142). -/
def execProbeCompletion (strings : Eight StringReading) (s : State) :
    Host.Outcome State Fault Refusal :=
  .next (
    if s.guard.probe = .probing then
      let t := s.advanceTo (s.guard.probeStart + Config.milliseconds 2)
      (t.setGuard { t.guard with probe := .idle, results := strings.map probeFinding }).latch
        [.probeDone]
    else s)

/-- PROBE by its owner (R141). -/
def ownProbe (s : State) : Answer × State :=
  match s.guard.probe with
  | .waiting => (.bare .busy, s)
  | .probing => (.bare .busy, s)
  | .idle =>
    if s.position.sequencer = .exposing then
      (.bare .accepted, s.setGuard { s.guard with probe := .waiting })
    else (.bare .accepted, s.startProbe)

/-- PROBE (R141). -/
def execProbe (tag : Byte) (s : State) : Host.Outcome State Fault Refusal :=
  .next (consume tag 14 ownProbe s)

/-! ## Exposure windows -/

/-- Lamp Protection as a window opens: sense progress 0, every segment free to light, a running
probe aborted (R109, R130, R143). -/
def LampProtection.windowOpened (g : LampProtection) : LampProtection :=
  { g.abortProbe with
    segments := g.segments.map fun x => { x with progress := 0, turnedOff := false } }

/-- Lamp Protection as a window closes: no segment stays turned off beyond it (R109). -/
def LampProtection.windowClosed (g : LampProtection) : LampProtection :=
  { g with segments := g.segments.map fun x => { x with turnedOff := false } }

/-- Lamp Protection with sensing abandoned, the open counts kept (R130 case c, R145 case a). That the
sense progress then reads 0 is the model's choice (assumption 33). -/
def LampProtection.windowAbandoned (g : LampProtection) : LampProtection :=
  { g with segments := g.segments.map fun x => { x with progress := 0, turnedOff := false } }

/-! ## CLEAR FAULTS (R140) -/

/-- A segment's latches, DISABLED mark and open count cleared (R140 case a). -/
def SegmentGuard.cleared (g : SegmentGuard) : SegmentGuard :=
  { g with openLatch := false, shortLatch := false, overLatch := false, disabled := false
           openCount := 0 }

/-- Lamp Protection after CLEAR FAULTS: the segments cleared, the thermal latches cleared in NORMAL
and left otherwise (R140). -/
def LampProtection.faultsCleared (g : LampProtection) : LampProtection :=
  { g with
    segments := g.segments.map SegmentGuard.cleared
    warn := g.warn && decide (g.thermal ≠ .normal)
    shut := g.shut && decide (g.thermal ≠ .normal) }

/-- CLEAR FAULTS by its owner (R140). -/
def ownClearFaults (s : State) : Answer × State :=
  ({ code := if s.guard.thermal = .normal then .done else .refused, content := [1] },
    s.setGuard (s.guard.faultsCleared.judged s.params))

/-- CLEAR FAULTS (R140). -/
def execClearFaults (tag : Byte) (s : State) : Host.Outcome State Fault Refusal :=
  .next (consume tag 17 ownClearFaults s)

/-! ## Settings of Lamp Protection (R135, R139) -/

/-- A SET of an enumerated parameter: BAD VALUE when the value names none of its choices, else
answered DONE and stored (R170). -/
def setChoice {α : Type} (identifier : Byte) (value : Word) (choice : Nat → Option α)
    (store : α → State) (s : State) : Answer × State :=
  match choice value.toNat with
  | none => (.bare .badValue, s)
  | some x => ({ code := .done, content := setReplyContent identifier 0 value.toNat }, store x)

/-- The state with new parameters and ALERT judged by them (R139). -/
def State.setParamsJudged (s : State) (p : Parameters) : State :=
  (s.setParams p).setGuard (s.guard.judged p)

/-- SET of LED FAULT RESPONSE by its owner (R135). -/
def ownSetLedFaultResponse (value : Word) (s : State) : Answer × State :=
  setChoice 20 value faultResponseOf
    (fun x => s.setParams { s.params with ledFaultResponse := x }) s

/-- SET of LED FAULT REPORT by its owner (R139). -/
def ownSetLedFaultReport (value : Word) (s : State) : Answer × State :=
  setChoice 21 value alertReportOf
    (fun x => s.setParamsJudged { s.params with ledFaultReport := x }) s

/-- SET of THERMAL REPORT by its owner (R139). -/
def ownSetThermalReport (value : Word) (s : State) : Answer × State :=
  setChoice 22 value alertReportOf
    (fun x => s.setParamsJudged { s.params with thermalReport := x }) s

/-- SET of LED FAULT RESPONSE (R135). -/
def execSetLedFaultResponse (tag : Byte) (value : Word) (s : State) :
    Host.Outcome State Fault Refusal :=
  .next (consume tag 2 (ownSetLedFaultResponse value) s)

/-- SET of LED FAULT REPORT (R139). -/
def execSetLedFaultReport (tag : Byte) (value : Word) (s : State) :
    Host.Outcome State Fault Refusal :=
  .next (consume tag 2 (ownSetLedFaultReport value) s)

/-- SET of THERMAL REPORT (R139). -/
def execSetThermalReport (tag : Byte) (value : Word) (s : State) :
    Host.Outcome State Fault Refusal :=
  .next (consume tag 2 (ownSetThermalReport value) s)

end Sys2Proof.Machine
end

