-- ==== Sys2Proof/Machine/Position.lean ====
section
/-! DEFINITION. The Position and Trigger Unit (Chapter 5): the odometer, the speed estimate, triggers,
motion modes, the trigger sequencer, exposures, and the unit's commands and parameters. -/

namespace Sys2Proof.Machine

/-! ## Exposure start (R101, R105, R106) -/

/-- The effective exposure in microseconds (R105): the set exposure, cut by the blur limit at speed
`v` but not below 50. -/
def effectiveExposure (set blur v : Nat) : Nat :=
  if 0 < blur ∧ 0 < v then min set (max 50 (blur * 1000000 / v)) else set

/-- The exposure compensation (R106). -/
def compensation (set effective : Nat) : Nat :=
  min 1024 (set * 256 / effective)

/-- E_eff of an exposure started now (R105). -/
def State.eEff (s : State) : Nat :=
  effectiveExposure s.params.exposure s.params.blurLimit s.position.speed

/-- The Illumination Unit as an exposure of a cause starts now. -/
def State.exposedLamps (s : State) (cause : Cause) : IlluminationUnit :=
  s.lamps.exposed (decide (cause = .survey)) s.guard s.position.nextSequence

/-- The exposure record made at the start of an exposure (R101 cases b and c, R138 case b). -/
def State.newRecord (s : State) (cause : Cause) (tag : Int) : FrameRecord :=
  { sequence := s.position.nextSequence, cause, tag, position := s.position.p
    mode := s.position.mode, eEff := s.eEff, gx := compensation s.params.exposure s.eEff
    applied := (s.exposedLamps cause).segments.map SegmentDrive.applied
    markers := s.lamps.markers (decide (cause = .survey))
    dark := decide (cause = .survey), derated := decide (s.guard.thermal = .derate)
    shutdown := decide (s.guard.thermal = .shutdown), ledFault := false
    skippedBefore := 0, repaired := 0, unrepaired := 0, short := false }

/-- The Position and Trigger Unit as an exposure starts now (R101 cases b to g). -/
def State.exposingUnit (s : State) (cause : Cause) (tag : Int) : PositionUnit :=
  { s.position with
    sequencer := .exposing
    current := some
      { sequence := s.position.nextSequence, recordState := .outstanding, start := s.now
        eEff := s.eEff, endedAt := none, begunAt := none, slot := none }
    outstanding := some (s.newRecord cause tag)
    nextSequence := s.position.nextSequence + 1
    triggerLine := true
    timeReference := some s.now }

/-- An exposure started (R101), with the abort of a running probe (R143) and of tunes by a change of
cycle length (R111). -/
def State.startExposure (s : State) (cause : Cause) (tag : Int) : State :=
  (((s.setPosition (s.exposingUnit cause tag)).setLamps (s.exposedLamps cause)).setGuard
      s.guard.windowOpened).latch
    (eventIf (decide (s.guard.probe = .probing)) .probeDone
      ++ eventIf (s.lamps.cycleChanges && s.lamps.anyTuning) .tuneDone)

/-! ## Triggers and the sequencer (R97 to R99, R103) -/

/-- Whether a trigger raised now starts an exposure at once: the sequencer READY and the dark survey
not ARMED (R97). -/
def State.startsAtOnce (s : State) : Bool :=
  decide (s.position.sequencer = .ready) && decide (s.intake.survey ≠ .armed)

/-- A trigger held as the pending one, replacing an earlier one with a TRIGGER OVERRUN (R98). -/
def State.pendTrigger (s : State) (t : Trigger) : State :=
  match s.position.pendingTrigger with
  | none => s.setPosition { s.position with pendingTrigger := some t }
  | some _ =>
    ((s.setPosition { s.position with pendingTrigger := some t }).count fun c =>
      { c with triggerOverruns := bump 1 c.triggerOverruns }).latch [.triggerOverrun]

/-- A trigger raised (R97, R98). -/
def State.raiseTrigger (s : State) (cause : Cause) (tag : Int) : State :=
  if s.startsAtOnce then s.startExposure cause tag else s.pendTrigger { cause, tag }

/-- The next exposure taken up by a READY sequencer: the survey's first, else the pending trigger's
(R99). -/
def State.takeUpNext (s : State) : State :=
  if s.intake.survey = .armed then s.startExposure .survey s.position.p
  else
    match s.position.pendingTrigger with
    | none => s
    | some t => (s.setPosition { s.position with pendingTrigger := none }).startExposure t.cause t.tag

/-- Whether a READY sequencer has an exposure to take up (R99). -/
def State.hasNext (s : State) : Bool :=
  decide (s.intake.survey = .armed) || s.position.pendingTrigger.isSome

/-- The sequencer becomes READY and takes up the next exposure (R99). -/
def State.becomeReady (s : State) : State :=
  (s.setPosition { s.position with sequencer := .ready }).takeUpNext

/-- The survey has become ARMED: a READY sequencer takes up its exposure at once (R79, R99). -/
def State.takeUpArmed (s : State) (armed : Bool) : State :=
  if armed = true ∧ s.position.sequencer = .ready then s.takeUpNext else s

/-- Sensor Intake's report that the frame of an exposure has begun (R103 case a), with the slot its
record was attached to, if any. The record is no longer outstanding. -/
def State.reportBegin (s : State) (sequence : BitVec 16) (slot : Option SlotId) : State :=
  s.setPosition { s.position with
    outstanding := none
    current := s.position.current.map fun e =>
      if e.sequence = sequence then
        { e with recordState := .readingOut, endedAt := none, begunAt := some s.now, slot }
      else e }

/-- Whether a report names the current exposure (R103). -/
def PositionUnit.isCurrent (u : PositionUnit) (sequence : BitVec 16) : Bool :=
  match u.current with
  | none => false
  | some e => decide (e.sequence = sequence)

/-- The current exposure marked CLOSED (R103 case b). -/
def PositionUnit.closeCurrent (u : PositionUnit) : PositionUnit :=
  { u with current := u.current.map fun e => { e with recordState := .closed } }

/-- Sensor Intake's report of a frame's end or drop (R103 case b). -/
def State.reportEnd (s : State) (sequence : BitVec 16) : State :=
  if s.position.isCurrent sequence then
    let t := s.setPosition s.position.closeCurrent
    if s.position.sequencer = .awaitingFrame then t.becomeReady else t
  else s

/-! ## Time triggers (R95) -/

/-- The interval of the present mode, in timebase steps (R95). -/
def State.timeInterval (s : State) : Nat :=
  match s.position.mode with
  | .parked => Config.seconds s.params.parkInterval
  | .dwell => Config.milliseconds s.params.dwellInterval
  | .travel => Config.milliseconds s.params.dwellInterval

/-- The moment the next TIME trigger falls due in DWELL or PARKED (R95). -/
def State.timeDue (s : State) : Nat :=
  s.position.timeReference.getD s.position.modeEntered + s.timeInterval

/-- A TIME trigger raised now (R95). -/
def State.raiseTime (s : State) : State :=
  (s.setPosition { s.position with timeReference := some s.now }).raiseTrigger .time s.position.p

/-- A due moment already past raises its TIME trigger at once (R95). -/
def State.raiseIfDue (s : State) : State :=
  if s.position.mode ≠ .travel ∧ s.timeDue ≤ s.now then s.raiseTime else s

/-! ## Motion modes (R91 to R94) -/

/-- The moment the dwell timer expires (R92). -/
def State.dwellDue (s : State) : Nat :=
  s.position.lastCount + Config.milliseconds (100 * s.params.dwellTimeout)

/-- The moment the park timer expires (R93). -/
def State.parkDue (s : State) : Nat :=
  s.position.lastCount + Config.seconds s.params.parkTimeout

/-- Whether the dwell timer runs: in TRAVEL, with DWELL TIMEOUT not 0 (R92). -/
def State.dwellRuns (s : State) : Bool :=
  decide (s.position.mode = .travel) && decide (s.params.dwellTimeout ≠ 0)

/-- Whether the park timer runs: in DWELL, with PARK TIMEOUT not 0 (R93). -/
def State.parkRuns (s : State) : Bool :=
  decide (s.position.mode = .dwell) && decide (s.params.parkTimeout ≠ 0)

/-- DWELL passes to PARKED (R93, R95). -/
def State.enterPark (s : State) : State :=
  ((s.setPosition { s.position with mode := .parked, modeEntered := s.now }).latch
    [.motion]).raiseIfDue

/-- PARKED entered when the park timer has already expired (R93). -/
def State.parkIfPassed (s : State) : State :=
  if s.parkRuns = true ∧ s.parkDue ≤ s.now then s.enterPark else s

/-- TRAVEL passes to DWELL, and at once to PARKED when that timer has expired too (R92, R93). -/
def State.enterDwell (s : State) : State :=
  (((s.setPosition { s.position with
      mode := .dwell, modeEntered := s.now, restPosition := some s.position.p }).latch
    [.motion]).raiseIfDue).parkIfPassed

/-- DWELL entered when the dwell timer has already expired (R92). -/
def State.dwellIfPassed (s : State) : State :=
  if s.dwellRuns = true ∧ s.dwellDue ≤ s.now then s.enterDwell else s

/-- The trigger step as a distance. -/
def State.step (s : State) : Int :=
  (s.params.triggerStep : Int)

/-- A DISTANCE trigger raised at a target, which becomes the last trigger point (R89, R91). -/
def State.raiseDistance (s : State) (target : Int) : State :=
  (s.setPosition { s.position with l := target }).raiseTrigger .distance target

/-- The distance test after a count in TRAVEL (R89). -/
def State.distanceTest (s : State) : State :=
  if s.position.p = s.position.l + s.step then s.raiseDistance (s.position.l + s.step)
  else if s.position.p = s.position.l - s.step then s.raiseDistance (s.position.l - s.step)
  else s

/-- The distance test on the whole of a creep, as the mode returns to TRAVEL (R91). -/
def State.creepTest (s : State) : State :=
  if s.position.l + s.step ≤ s.position.p then
    s.raiseDistance (s.position.p / s.step * s.step)
  else if s.position.p ≤ s.position.l - s.step then
    s.raiseDistance (-(-s.position.p / s.step) * s.step)
  else s

/-- The crawler woken: TRAVEL, no rest position, the creep tested, MOTION latched (R94). -/
def State.wake (s : State) : State :=
  ((s.setPosition { s.position with
      mode := .travel, modeEntered := s.now, restPosition := none }).creepTest).latch [.motion]

/-- Whether P stands at least WAKE DISTANCE from a rest position held outside TRAVEL (R94). -/
def State.wakes (s : State) : Bool :=
  match s.position.restPosition with
  | none => false
  | some r =>
    decide (s.position.mode ≠ .travel)
      && decide (s.params.wakeDistance ≤ (s.position.p - r).natAbs)

/-- The wake test (R94). -/
def State.wakeTest (s : State) : State :=
  if s.wakes then s.wake else s

/-! ## The odometer (R85 to R87) -/

/-- Whether a change of one phase from the phase reference is a forward step (TABLE 5-2). -/
def isForward (a b : Bool) (phase : OdoPhase) : Bool :=
  match a, b, phase with
  | false, false, .phaseA => true
  | true, false, .phaseB => true
  | true, true, .phaseA => true
  | false, true, .phaseB => true
  | false, false, .phaseB => false
  | true, false, .phaseA => false
  | true, true, .phaseB => false
  | false, true, .phaseA => false

/-- P moved by one count, saturating at both limits (R85). -/
def movedPosition (p : Int) (forward : Bool) : Int :=
  clampInt (-Config.positionLimit) Config.positionLimit (if forward then p + 1 else p - 1)

/-- The unit after a count: P, the phase reference and the time of last count (R85). -/
def PositionUnit.counted (u : PositionUnit) (phase : OdoPhase) (now : Nat) : PositionUnit :=
  { u with
    p := movedPosition u.p (isForward u.phaseA u.phaseB phase)
    phaseA := if phase = .phaseA then !u.phaseA else u.phaseA
    phaseB := if phase = .phaseB then !u.phaseB else u.phaseB
    lastCount := now }

/-- ODOMETER COUNT (R85, R89, R91, R94). -/
def execOdometerCount (phase : OdoPhase) (s : State) : Host.Outcome State Fault Refusal :=
  .next (
    if s.position.mode = .travel then
      (s.setPosition (s.position.counted phase s.now)).distanceTest
    else (s.setPosition (s.position.counted phase s.now)).wakeTest)

/-- ODO GLITCH (R86): both phases change; only the counter and the phase reference move. -/
def execOdoGlitch (s : State) : Host.Outcome State Fault Refusal :=
  .next ((s.setPosition { s.position with
      phaseA := !s.position.phaseA, phaseB := !s.position.phaseB }).count fun c =>
    { c with odoGlitches := bump 1 c.odoGlitches })

/-- SPEED WINDOW: the end of the 8 ms window in progress (R88). -/
def execSpeedWindow (s : State) : Host.Outcome State Fault Refusal :=
  .next (
    let due := s.position.windowStart + Config.milliseconds 8
    let t := s.advanceTo due
    t.setPosition { t.position with
      speed := (t.position.p - t.position.windowStartValue).natAbs * 125
      windowStartValue := t.position.p
      windowStart := due })

/-! ## Timed events (R92, R93, R95, R102, R104) -/

/-- DWELL TIMER (R92). -/
def execDwellTimer (s : State) : Host.Outcome State Fault Refusal :=
  .next (if s.dwellRuns then (s.advanceTo s.dwellDue).enterDwell else s)

/-- PARK TIMER (R93). -/
def execParkTimer (s : State) : Host.Outcome State Fault Refusal :=
  .next (if s.parkRuns then (s.advanceTo s.parkDue).enterPark else s)

/-- TIME TRIGGER (R95). -/
def execTimeTrigger (s : State) : Host.Outcome State Fault Refusal :=
  .next (if s.position.mode = .travel then s else (s.advanceTo s.timeDue).raiseTime)

/-- The unit as its exposure ends with the frame not yet CLOSED (R102 case b). -/
def PositionUnit.exposureEnded (u : PositionUnit) (e : CurrentExposure) (now : Nat) : PositionUnit :=
  { u with
    triggerLine := false
    sequencer := .awaitingFrame
    current := some { e with endedAt := if e.recordState = .outstanding then some now else none } }

/-- A waiting probe starts as the exposure ends (R141 case b). -/
def State.startWaitingProbe (s : State) : State :=
  if s.guard.probe = .waiting then s.startProbe else s

/-- A waiting probe meets the next exposure at the end of a CLOSED exposure; the order is a free
choice (R143, assumption 7). -/
def State.probeMeetsExposure (s : State) : State :=
  if Config.probeStartsFirst s.freeIndex then s.takeFree.startProbe.becomeReady
  else s.takeFree.becomeReady

/-- What follows the end of an exposure: READY and the next exposure when it is CLOSED, and a waiting
probe's start (R102, R141). -/
def State.afterExposure (s : State) (closed : Bool) : State :=
  if closed then
    if s.guard.probe = .waiting ∧ s.hasNext = true then s.probeMeetsExposure
    else s.startWaitingProbe.becomeReady
  else s.startWaitingProbe

/-- EXPOSURE END (R102). -/
def execExposureEnd (s : State) : Host.Outcome State Fault Refusal :=
  .next (match s.position.openWindow with
    | none => s
    | some e =>
      let t := s.advanceTo (e.start + e.windowSteps)
      ((t.setPosition (t.position.exposureEnded e t.now)).setGuard t.guard.windowClosed).afterExposure
        (decide (e.recordState = .closed)))

/-- The current exposure given up by the sequencer (R104). -/
def State.exposureLost (s : State) : State :=
  (((s.setPosition { s.position with current := none }).count fun c =>
      { c with sensorTimeouts := bump 1 c.sensorTimeouts }).latch [.sensorTimeout]).becomeReady

/-- The moment the sensor timeout of an OUTSTANDING record expires (R104 case a). -/
def PositionUnit.sensorDue (u : PositionUnit) : Option Nat :=
  match u.sequencer, u.current with
  | .awaitingFrame, some e =>
    if e.recordState = .outstanding then e.endedAt.map (· + Config.milliseconds 100) else none
  | .awaitingFrame, none => none
  | .ready, _ => none
  | .exposing, _ => none

/-- The moment the readout limit expires (R104 case b). -/
def PositionUnit.readoutDue (u : PositionUnit) : Option Nat :=
  match u.sequencer, u.current with
  | .awaitingFrame, some e =>
    if e.recordState = .readingOut then e.begunAt.map (· + Config.seconds 1) else none
  | .awaitingFrame, none => none
  | .ready, _ => none
  | .exposing, _ => none

/-- SENSOR TIMEOUT (R104 case a): the record is discarded. -/
def execSensorTimeout (s : State) : Host.Outcome State Fault Refusal :=
  .next (match s.position.sensorDue with
    | none => s
    | some due =>
      let t := s.advanceTo due
      (t.setPosition { t.position with outstanding := none }).exposureLost)

/-- READOUT LIMIT (R104 case b): the record stays attached to its slot. -/
def execReadoutLimit (s : State) : Host.Outcome State Fault Refusal :=
  .next (match s.position.readoutDue with
    | none => s
    | some due => (s.advanceTo due).exposureLost)

/-! ## Commands (R87, R100) -/

/-- SNAP by its owner (R100). -/
def ownSnap (s : State) : Answer × State :=
  ({ code := .done, content := [if s.startsAtOnce then 0 else 1] },
    s.raiseTrigger .snap s.position.p)

/-- ZERO ODOMETER by its owner (R87). -/
def ownZeroOdometer (s : State) : Answer × State :=
  (.bare .done,
    (s.setPosition { s.position with
      p := 0, l := 0, windowStartValue := 0
      restPosition := s.position.restPosition.map fun _ => 0 }).wakeTest)

/-- SNAP (R100). -/
def execSnap (tag : Byte) (s : State) : Host.Outcome State Fault Refusal :=
  .next (consume tag 15 ownSnap s)

/-- ZERO ODOMETER (R87). -/
def execZeroOdometer (tag : Byte) (s : State) : Host.Outcome State Fault Refusal :=
  .next (consume tag 16 ownZeroOdometer s)

/-! ## Parameters of the unit (R170) -/

/-- A SET of a numeric parameter: clamped, stepped, stored, answered with the value taken (R170). -/
def setNumber (identifier : Byte) (value : Word) (lo hi step : Nat) (store : Nat → State) :
    Answer × State :=
  (setAnswer identifier 0 value.toNat (takeValue lo hi step value.toNat),
    store (takeValue lo hi step value.toNat))

/-- SET of EXPOSURE by its owner (R105). -/
def ownSetExposure (value : Word) (s : State) : Answer × State :=
  setNumber 5 value 50 20000 1 fun n => s.setParams { s.params with exposure := n }

/-- SET of BLUR LIMIT by its owner (R105). -/
def ownSetBlurLimit (value : Word) (s : State) : Answer × State :=
  setNumber 6 value 0 64 1 fun n => s.setParams { s.params with blurLimit := n }

/-- SET of TRIGGER STEP by its owner: L is re-based, no trigger is raised (R90). -/
def ownSetTriggerStep (value : Word) (s : State) : Answer × State :=
  setNumber 7 value 1 65535 1 fun n =>
    (s.setParams { s.params with triggerStep := n }).setPosition
      { s.position with l := s.position.p / (n : Int) * (n : Int) }

/-- SET of DWELL TIMEOUT by its owner (R92). -/
def ownSetDwellTimeout (value : Word) (s : State) : Answer × State :=
  setNumber 8 value 0 600 1 fun n =>
    (s.setParams { s.params with dwellTimeout := n }).dwellIfPassed

/-- SET of DWELL INTERVAL by its owner (R95). -/
def ownSetDwellInterval (value : Word) (s : State) : Answer × State :=
  setNumber 9 value 20 10000 1 fun n =>
    (s.setParams { s.params with dwellInterval := n }).raiseIfDue

/-- SET of PARK TIMEOUT by its owner (R93). -/
def ownSetParkTimeout (value : Word) (s : State) : Answer × State :=
  setNumber 10 value 0 3600 1 fun n =>
    (s.setParams { s.params with parkTimeout := n }).parkIfPassed

/-- SET of PARK INTERVAL by its owner (R95). -/
def ownSetParkInterval (value : Word) (s : State) : Answer × State :=
  setNumber 11 value 1 600 1 fun n =>
    (s.setParams { s.params with parkInterval := n }).raiseIfDue

/-- SET of WAKE DISTANCE by its owner (R94). -/
def ownSetWakeDistance (value : Word) (s : State) : Answer × State :=
  setNumber 12 value 1 255 1 fun n =>
    (s.setParams { s.params with wakeDistance := n }).wakeTest

/-- SET of EXPOSURE (R105). -/
def execSetExposure (tag : Byte) (value : Word) (s : State) : Host.Outcome State Fault Refusal :=
  .next (consume tag 2 (ownSetExposure value) s)

/-- SET of BLUR LIMIT (R105). -/
def execSetBlurLimit (tag : Byte) (value : Word) (s : State) : Host.Outcome State Fault Refusal :=
  .next (consume tag 2 (ownSetBlurLimit value) s)

/-- SET of TRIGGER STEP (R90). -/
def execSetTriggerStep (tag : Byte) (value : Word) (s : State) : Host.Outcome State Fault Refusal :=
  .next (consume tag 2 (ownSetTriggerStep value) s)

/-- SET of DWELL TIMEOUT (R92). -/
def execSetDwellTimeout (tag : Byte) (value : Word) (s : State) : Host.Outcome State Fault Refusal :=
  .next (consume tag 2 (ownSetDwellTimeout value) s)

/-- SET of DWELL INTERVAL (R95). -/
def execSetDwellInterval (tag : Byte) (value : Word) (s : State) : Host.Outcome State Fault Refusal :=
  .next (consume tag 2 (ownSetDwellInterval value) s)

/-- SET of PARK TIMEOUT (R93). -/
def execSetParkTimeout (tag : Byte) (value : Word) (s : State) : Host.Outcome State Fault Refusal :=
  .next (consume tag 2 (ownSetParkTimeout value) s)

/-- SET of PARK INTERVAL (R95). -/
def execSetParkInterval (tag : Byte) (value : Word) (s : State) : Host.Outcome State Fault Refusal :=
  .next (consume tag 2 (ownSetParkInterval value) s)

/-- SET of WAKE DISTANCE (R94). -/
def execSetWakeDistance (tag : Byte) (value : Word) (s : State) : Host.Outcome State Fault Refusal :=
  .next (consume tag 2 (ownSetWakeDistance value) s)

end Sys2Proof.Machine
end

