-- ==== Sys2Proof/Machine/Intake.lean ====
section
/-! DEFINITION. Sensor Intake and the Frame Slot Pool (Chapter 4): the pixel port's events, defect
substitution, the defect list and its edit queue, the dark survey, and the unit's commands. -/

namespace Sys2Proof.Machine

/-! ## The defect list (R69, R73, R77) -/

/-- Whether an entry has a coordinate. -/
def DefectEntry.isAt (e : DefectEntry) (row column : Nat) : Bool :=
  decide (e.row = row) && decide (e.column = column)

/-- Whether a coordinate comes before another in list order: row is the major key (R69). -/
def coordinateBefore (row column row' column' : Nat) : Bool :=
  decide (row < row') || (decide (row = row') && decide (column < column'))

/-- Whether a list holds an entry with a coordinate. -/
def hasDefect (list : List DefectEntry) (row column : Nat) : Bool :=
  list.any fun e => e.isAt row column

/-- An entry inserted at the place its coordinate sets (R69); a coordinate already listed keeps its
entry (R77: each ADD finds its coordinate absent). -/
def insertDefect (e : DefectEntry) (list : List DefectEntry) : List DefectEntry :=
  match list with
  | [] => [e]
  | x :: rest =>
    if coordinateBefore e.row e.column x.row x.column then e :: x :: rest
    else if x.isAt e.row e.column then x :: rest
    else x :: insertDefect e rest

/-- An edit applied to the list (R77). -/
def applyEdit (list : List DefectEntry) (edit : Edit) : List DefectEntry :=
  match edit with
  | .add row column method => insertDefect { row, column, method, origin := .loaded } list
  | .remove row column => list.filter fun e => !e.isAt row column
  | .clear learnedOnly => list.filter fun e => learnedOnly && decide (e.origin = .loaded)

/-- The list once queued edits have been applied, oldest first (section 4.7, R77). -/
def applyEdits (list : List DefectEntry) (edits : List Edit) : List DefectEntry :=
  edits.foldl applyEdit list

/-- The greatest size of the list at any step while queued edits are applied (section 4.7). -/
def peakSize (list : List DefectEntry) (edits : List Edit) : Nat :=
  match edits with
  | [] => list.length
  | e :: rest => max list.length (peakSize (applyEdit list e) rest)

/-- The projected list (section 4.7). -/
def SensorIntake.projected (u : SensorIntake) : List DefectEntry :=
  applyEdits u.defects u.edits

/-- Whether an ADD or REMOVE edit names a coordinate (R81 case a). -/
def Edit.names (edit : Edit) (row column : Nat) : Bool :=
  match edit with
  | .add r c _ => decide (r = row) && decide (c = column)
  | .remove r c => decide (r = row) && decide (c = column)
  | .clear _ => false

/-! ## Substitution (R71, R72) -/

/-- The listed pixels of a frame: the entries within its raster (R71). -/
def listedPixels (list : List DefectEntry) (slot : Slot) : List DefectEntry :=
  list.filter fun e => decide (e.row < slot.hs) && decide (e.column < slot.ws)

/-- The pixel value V(column, row) a slot holds; a pixel never written has a free value. -/
def Slot.pixel (slot : Slot) (column row : Nat) : Nat :=
  match slot.rows[row]? with
  | none => (Config.unwrittenPixel column row).toNat
  | some r =>
    match r.pixels[column]? with
    | none => (Config.unwrittenPixel column row).toNat
    | some v => v

/-- The neighbours a method names, as (row, column); one before row or column 0 does not exist
(TABLE 4-4). -/
def namedNeighbours (method : Method) (row column : Nat) : List (Nat × Nat) :=
  let h := (if column = 0 then [] else [(row, column - 1)]) ++ [(row, column + 1)]
  let v := (if row = 0 then [] else [(row - 1, column)]) ++ [(row + 1, column)]
  match method with
  | .h => h
  | .v => v
  | .q => h ++ v

/-- The usable neighbours of a listed pixel: within the raster and not listed (R71). -/
def usableNeighbours (list : List DefectEntry) (slot : Slot) (e : DefectEntry) : List (Nat × Nat) :=
  (namedNeighbours e.method e.row e.column).filter fun n =>
    decide (n.1 < slot.hs) && decide (n.2 < slot.ws) && !hasDefect list n.1 n.2

/-- The rounded mean of values: floor((sum + floor(n/2)) / n) (R72). -/
def roundedMean (values : List Nat) : Nat :=
  (values.sum + values.length / 2) / values.length

/-- The value a listed pixel takes, or none when it has no usable neighbour (R72). -/
def substitute (list : List DefectEntry) (slot : Slot) (e : DefectEntry) : Option Nat :=
  match usableNeighbours list slot e with
  | [] => none
  | ns => some (roundedMean (ns.map fun n => slot.pixel n.2 n.1))

/-- The rows with one pixel replaced. -/
def setPixel (rows : List SlotRow) (row column value : Nat) : List SlotRow :=
  match rows[row]? with
  | none => rows
  | some r => rows.set row { r with pixels := r.pixels.set column value }

/-- The rows of a frame with every listed pixel repaired from the raster before substitution (R72). -/
def repairedRows (list : List DefectEntry) (slot : Slot) : List SlotRow :=
  (listedPixels list slot).foldl
    (fun rows e =>
      match substitute list slot e with
      | none => rows
      | some v => setPixel rows e.row e.column v)
    slot.rows

/-- The listed pixels of a frame that a usable neighbour repairs (R72). -/
def repairedPixels (list : List DefectEntry) (slot : Slot) : List DefectEntry :=
  (listedPixels list slot).filter fun e => (substitute list slot e).isSome

/-! ## Lines (R65, R68, R80) -/

/-- Black subtraction: V = max(0, raw − BLACK LEVEL) (R68). -/
def blackSubtract (black : Nat) (raw : BitVec 12) : Nat :=
  raw.toNat - black

/-- A row made of a line of at least one pixel: black-subtracted, cut at the raster's width, or
padded with copies of its last received pixel (R65). -/
def lineRow (slot : Slot) (pixels : List (BitVec 12)) : SlotRow :=
  let v := (pixels.take slot.ws).map (blackSubtract slot.black)
  { pixels := v ++ List.replicate (slot.ws - v.length) (v.getLastD 0), received := v.length }

/-- The candidates of a received row, left to right: above the threshold and not listed (R80). -/
def rowCandidates (list : List DefectEntry) (threshold row : Nat) (r : SlotRow) : List (Nat × Nat) :=
  (List.range r.received).filterMap fun column =>
    if threshold < r.pixels.getD column 0 ∧ hasDefect list row column = false then
      some (row, column)
    else none

/-- The survey after a row was received: the first 512 candidates kept, others overflow (R80). -/
def Survey.examine (v : Survey) (list : List DefectEntry) (row : Nat) (r : SlotRow) : Survey :=
  match v with
  | .idle => .idle
  | .armed => .armed
  | .collecting threshold candidates overflow =>
    let all := candidates ++ rowCandidates list threshold row r
    .collecting threshold (all.take Config.defectCapacity)
      (overflow + (all.length - Config.defectCapacity))

/-- One line adjusted or ignored (R65). -/
def Counters.lineAdjusted (c : Counters) : Counters :=
  { c with sourceLinesAdjusted := bump 1 c.sourceLinesAdjusted }

/-- A row written to the filling slot (R65). -/
def State.writeRow (s : State) (i : SlotId) (r : SlotRow) : State :=
  (s.setSlots (s.slots.set i { s.slots.get i with rows := (s.slots.get i).rows ++ [r] })).setIntake
    { s.intake with
      survey := s.intake.survey.examine s.intake.defects (s.slots.get i).rows.length r }

/-- A line received while FILLING (R65). -/
def State.fillLine (s : State) (i : SlotId) (pixels : List (BitVec 12)) : State :=
  if pixels.length = 0 then s
  else if (s.slots.get i).hs ≤ (s.slots.get i).rows.length then s.count Counters.lineAdjusted
  else if pixels.length = (s.slots.get i).ws then s.writeRow i (lineRow (s.slots.get i) pixels)
  else (s.writeRow i (lineRow (s.slots.get i) pixels)).count Counters.lineAdjusted

/-- LINE (R64, R65): a line is ignored while WAITING or PASSING. -/
def execLine (pixels : List (BitVec 12)) (s : State) : Host.Outcome State Fault Refusal :=
  .next (match s.intake.intake with
    | .filling i => s.fillLine i pixels
    | .waiting => s
    | .passing _ => s)

/-! ## The survey's merge (R81) -/

/-- What a merge comes to: the list, the candidates added, the overflow. -/
structure Merge where
  list : List DefectEntry
  added : Nat
  overflow : Nat
  deriving DecidableEq, Repr

/-- One candidate judged (R81 cases a to c). The peak size is found afresh for each candidate as section
4.7 defines it, not raised by one for each insertion, where a queued CLEAR makes the two differ: the
model's choice (assumption 34). -/
def Merge.judge (edits : List Edit) (m : Merge) (candidate : Nat × Nat) : Merge :=
  if edits.any fun e => e.names candidate.1 candidate.2 then m
  else if peakSize m.list edits < Config.defectCapacity then
    { m with
      list := insertDefect
        { row := candidate.1, column := candidate.2, method := .q, origin := .learned } m.list
      added := m.added + 1 }
  else { m with overflow := m.overflow + 1 }

/-- The kept candidates merged in ascending order (R81). -/
def mergeCandidates (list : List DefectEntry) (edits : List Edit) (candidates : List (Nat × Nat))
    (overflow : Nat) : Merge :=
  candidates.foldl (Merge.judge edits) { list, added := 0, overflow }

/-- Sensor Intake after a completed frame: WAITING, with a COLLECTING survey merged (R66 case e, R81). -/
def SensorIntake.frameDone (u : SensorIntake) (sequence : BitVec 16) : SensorIntake :=
  match u.survey with
  | .idle => { u with intake := .waiting }
  | .armed => { u with intake := .waiting }
  | .collecting _ candidates overflow =>
    let m := mergeCandidates u.defects u.edits candidates overflow
    { u with
      intake := .waiting, defects := m.list, survey := .idle
      lastSurvey := some { added := m.added, overflow := m.overflow, sequence } }

/-- Whether the survey is COLLECTING. -/
def Survey.isCollecting (v : Survey) : Bool :=
  match v with
  | .idle => false
  | .armed => false
  | .collecting .. => true

/-! ## Frame end (R66, R67) -/

/-- The rows of a frame brought to its height with copies of the last row, marked as not received
(R66 case a). -/
def Slot.filledRows (slot : Slot) : List SlotRow :=
  match slot.rows.getLast? with
  | none => slot.rows
  | some last =>
    slot.rows ++ List.replicate (slot.hs - slot.rows.length) { last with received := 0 }

/-- A completed slot: rows filled, defects substituted, the record's counts and SHORT written, READY
(R66 cases a to c). -/
def Slot.completed (slot : Slot) (list : List DefectEntry) (r : FrameRecord) : Slot :=
  let full := { slot with rows := slot.filledRows }
  { full with
    state := .ready
    rows := repairedRows list full
    record := some { r with
      short := decide (slot.rows.length < slot.hs)
      repaired := (repairedPixels list full).length
      unrepaired := (listedPixels list full).length - (repairedPixels list full).length } }

/-- The pool with a slot READY at the end of the ready order (R59, R66 case c). -/
def SlotPool.makeReady (p : SlotPool) (i : SlotId) (x : Slot) : SlotPool :=
  { p.set i x with readyOrder := p.readyOrder ++ [i] }

/-- A filling frame with at least one line completed (R66). -/
def State.completeFrame (s : State) (i : SlotId) (r : FrameRecord) : State :=
  (((s.setSlots (s.slots.makeReady i ((s.slots.get i).completed s.intake.defects r))).setIntake
      (s.intake.frameDone r.sequence)).latch
    (eventIf s.intake.survey.isCollecting .surveyDone)).reportEnd r.sequence

/-- One frame lost at Sensor Intake (R62, R67). -/
def Counters.frameSkipped (c : Counters) : Counters :=
  { c with sourceSkipped := bump 1 c.sourceSkipped }

/-- Sensor Intake after a frame with no lines: WAITING, a COLLECTING survey ARMED again (R67). -/
def SensorIntake.frameVoid (u : SensorIntake) : SensorIntake :=
  { u with intake := .waiting, survey := if u.survey.isCollecting then .armed else u.survey }

/-- A filling frame with no lines handled as a dropped frame (R67). A survey ARMED again by it has its
next exposure taken up: by the report, or at once when the sequencer is READY, since READOUT LIMIT had
given the frame's exposure up and the report is ignored (R82 case b, R99, R103, R104 case b). -/
def State.voidFrame (s : State) (i : SlotId) (r : FrameRecord) : State :=
  ((((((s.setSlots (s.slots.set i Slot.freed)).setIntake s.intake.frameVoid).setPosition
      { s.position with skipTally := satAdd 255 r.skippedBefore 1 }).count
    Counters.frameSkipped).latch [.sourceSkipped]).reportEnd r.sequence).takeUpArmed
      s.intake.survey.isCollecting

/-- The end of a frame being written into a slot (R66, R67). -/
def State.endFilling (s : State) (i : SlotId) : State :=
  match (s.slots.get i).record with
  | none => s.setIntake { s.intake with intake := .waiting }
  | some r => if (s.slots.get i).rows.length = 0 then s.voidFrame i r else s.completeFrame i r

/-- The end of a frame that passes: a DROPPED frame's drop is reported (R62, R63, R84). -/
def State.endPassing (s : State) (kind : PassKind) : State :=
  let t := s.setIntake { s.intake with intake := .waiting }
  match kind with
  | .dropped (some sequence) => t.reportEnd sequence
  | .dropped none => t
  | .unsolicited => t
  | .abandoned => t

/-- The frame in progress on the port, if any, ended (R64, R66). -/
def State.endFrame (s : State) : State :=
  match s.intake.intake with
  | .waiting => s
  | .filling i => s.endFilling i
  | .passing kind => s.endPassing kind

/-- FRAME END (R64, R66, R67): ignored while WAITING. -/
def execFrameEnd (s : State) : Host.Outcome State Fault Refusal :=
  .next s.endFrame

/-! ## Frame begin (R61 to R63) -/

/-- The lowest-numbered FREE slot (R61 case a). -/
def SlotPool.lowestFree (p : SlotPool) : Option SlotId :=
  if p.slot0.state = .free then some .slot0
  else if p.slot1.state = .free then some .slot1
  else if p.slot2.state = .free then some .slot2
  else none

/-- Sensor Intake with the queued edits applied and the queue emptied (R77). -/
def SensorIntake.editsApplied (u : SensorIntake) : SensorIntake :=
  { u with defects := u.projected, edits := [] }

/-- Sensor Intake as a slot is claimed; an ARMED survey meeting its own frame becomes COLLECTING (R61
case a, R80). -/
def SensorIntake.claimed (u : SensorIntake) (i : SlotId) (cause : Cause) (threshold : Nat) :
    SensorIntake :=
  { u with
    intake := .filling i
    survey := if cause = .survey ∧ u.survey = .armed then .collecting threshold [] 0 else u.survey }

/-- The slot as it is claimed (R61 case a, R68). -/
def State.claimedSlot (s : State) (r : FrameRecord) : Slot :=
  { state := .filling, ws := s.params.sourceWidth, hs := s.params.sourceHeight
    black := s.params.blackLevel, rows := []
    record := some { r with skippedBefore := s.position.skipTally } }

/-- A slot claimed for the frame of the outstanding exposure (R61 case a). -/
def State.claimFrame (s : State) (i : SlotId) (r : FrameRecord) : State :=
  (((s.setSlots (s.slots.set i (s.claimedSlot r))).setIntake
      (s.intake.claimed i r.cause s.params.darkThreshold)).setPosition
    { s.position with skipTally := 0 }).reportBegin r.sequence (some i)

/-- The frame of the outstanding exposure dropped for want of a FREE slot (R62). -/
def State.dropFrame (s : State) (r : FrameRecord) : State :=
  ((((s.setIntake { s.intake with intake := .passing (.dropped (some r.sequence)) }).setPosition
      { s.position with skipTally := satAdd 255 s.position.skipTally 1 }).reportBegin r.sequence
    none).count Counters.frameSkipped).latch [.sourceSkipped]

/-- A frame that no exposure record is outstanding for (R63). -/
def State.passUnsolicited (s : State) : State :=
  ((s.setIntake { s.intake with intake := .passing .unsolicited }).count fun c =>
    { c with unsolicitedFrames := bump 1 c.unsolicitedFrames }).latch [.unsolicitedFrame]

/-- A frame begin taken while WAITING (R61). -/
def State.beginFrame (s : State) : State :=
  let t := s.setIntake s.intake.editsApplied
  match t.position.outstanding with
  | none => t.passUnsolicited
  | some r =>
    match t.slots.lowestFree with
    | none => t.dropFrame r
    | some i => t.claimFrame i r

/-- FRAME BEGIN (R61, R64): a frame still in progress is ended first. -/
def execFrameBegin (s : State) : Host.Outcome State Fault Refusal :=
  .next s.endFrame.beginFrame

/-! ## Commands (R74 to R76, R79) -/

/-- The content of every reply to an edit command: projected size and edits queued (R73, TABLE 8-8). -/
def SensorIntake.editContent (u : SensorIntake) : List Byte :=
  bigEndian 2 u.projected.length ++ [byteOf u.edits.length]

/-- An edit command's answer, with the sizes after it. -/
def editAnswer (code : ReplyCode) (s : State) : Answer × State :=
  ({ code, content := s.intake.editContent }, s)

/-- An edit ACCEPTED: it joins the end of the queue (R73). -/
def acceptEdit (edit : Edit) (s : State) : Answer × State :=
  editAnswer .accepted (s.setIntake { s.intake with edits := s.intake.edits ++ [edit] })

/-- Whether the edit queue is full (R73). -/
def SensorIntake.editsFull (u : SensorIntake) : Bool :=
  decide (Config.editCapacity ≤ u.edits.length)

/-- DEFECT ADD by its owner (R74). -/
def ownDefectAdd (row : BitVec 10) (column : BitVec 11) (method : BitVec 2) (s : State) :
    Answer × State :=
  match methodOf method with
  | none => editAnswer .badValue s
  | some m =>
    if 1023 < row.toNat ∨ 1279 < column.toNat then editAnswer .badValue s
    else if s.intake.editsFull then editAnswer .busy s
    else if hasDefect s.intake.projected row.toNat column.toNat then editAnswer .existing s
    else if Config.defectCapacity ≤ s.intake.projected.length then editAnswer .full s
    else acceptEdit (.add row.toNat column.toNat m) s

/-- DEFECT REMOVE by its owner (R75). -/
def ownDefectRemove (row : BitVec 10) (column : BitVec 11) (s : State) : Answer × State :=
  if 1023 < row.toNat ∨ 1279 < column.toNat then editAnswer .badValue s
  else if s.intake.editsFull then editAnswer .busy s
  else if hasDefect s.intake.projected row.toNat column.toNat then
    acceptEdit (.remove row.toNat column.toNat) s
  else editAnswer .absent s

/-- DEFECT CLEAR by its owner (R76). -/
def ownDefectClear (originFilter : Byte) (s : State) : Answer × State :=
  match originFilterOf originFilter with
  | none => editAnswer .badValue s
  | some learnedOnly =>
    if s.intake.editsFull then editAnswer .busy s else acceptEdit (.clear learnedOnly) s

/-- The survey ARMED; a READY sequencer takes it up at once (R79, R99). -/
def State.armSurvey (s : State) : State :=
  (s.setIntake { s.intake with survey := .armed }).takeUpArmed true

/-- DARK SURVEY by its owner (R79). -/
def ownDarkSurvey (s : State) : Answer × State :=
  match s.intake.survey with
  | .idle => (.bare .accepted, s.armSurvey)
  | .armed => (.bare .busy, s)
  | .collecting .. => (.bare .busy, s)

/-- DEFECT ADD (R74). -/
def execDefectAdd (tag : Byte) (row : BitVec 10) (column : BitVec 11) (method : BitVec 2)
    (s : State) : Host.Outcome State Fault Refusal :=
  .next (consume tag 8 (ownDefectAdd row column method) s)

/-- DEFECT REMOVE (R75). -/
def execDefectRemove (tag : Byte) (row : BitVec 10) (column : BitVec 11) (s : State) :
    Host.Outcome State Fault Refusal :=
  .next (consume tag 9 (ownDefectRemove row column) s)

/-- DEFECT CLEAR (R76). -/
def execDefectClear (tag originFilter : Byte) (s : State) : Host.Outcome State Fault Refusal :=
  .next (consume tag 10 (ownDefectClear originFilter) s)

/-- DARK SURVEY (R79). -/
def execDarkSurvey (tag : Byte) (s : State) : Host.Outcome State Fault Refusal :=
  .next (consume tag 11 ownDarkSurvey s)

/-! ## Parameters of Sensor Intake (R170) -/

/-- SET of SOURCE WIDTH by its owner (R170). -/
def ownSetSourceWidth (value : Word) (s : State) : Answer × State :=
  setNumber 1 value 256 1280 16 fun n => s.setParams { s.params with sourceWidth := n }

/-- SET of SOURCE HEIGHT by its owner (R170). -/
def ownSetSourceHeight (value : Word) (s : State) : Answer × State :=
  setNumber 2 value 256 1024 16 fun n => s.setParams { s.params with sourceHeight := n }

/-- SET of BLACK LEVEL by its owner (R68). -/
def ownSetBlackLevel (value : Word) (s : State) : Answer × State :=
  setNumber 3 value 0 1023 1 fun n => s.setParams { s.params with blackLevel := n }

/-- SET of DARK THRESHOLD by its owner (R79). -/
def ownSetDarkThreshold (value : Word) (s : State) : Answer × State :=
  setNumber 4 value 1 4095 1 fun n => s.setParams { s.params with darkThreshold := n }

/-- SET of SOURCE WIDTH (R170). -/
def execSetSourceWidth (tag : Byte) (value : Word) (s : State) : Host.Outcome State Fault Refusal :=
  .next (consume tag 2 (ownSetSourceWidth value) s)

/-- SET of SOURCE HEIGHT (R170). -/
def execSetSourceHeight (tag : Byte) (value : Word) (s : State) :
    Host.Outcome State Fault Refusal :=
  .next (consume tag 2 (ownSetSourceHeight value) s)

/-- SET of BLACK LEVEL (R68). -/
def execSetBlackLevel (tag : Byte) (value : Word) (s : State) : Host.Outcome State Fault Refusal :=
  .next (consume tag 2 (ownSetBlackLevel value) s)

/-- SET of DARK THRESHOLD (R79). -/
def execSetDarkThreshold (tag : Byte) (value : Word) (s : State) :
    Host.Outcome State Fault Refusal :=
  .next (consume tag 2 (ownSetDarkThreshold value) s)

end Sys2Proof.Machine
end

