-- ==== Sys2Proof/Machine/Banks.lean ====
section
/-! DEFINITION. The View Bank Store (Chapter 3): loading and closing of banks, the table check, the
pending view change and the commands that order it. -/

namespace Sys2Proof.Machine

/-! ## Sizes (R4 to R6, R43) -/

/-- Nodes or cells of each part for a header (R4, R5, R6). -/
def Header.entries (h : Header) (part : TablePart) : Nat :=
  match part with
  | .mesh => (h.wo / 16 + 1) * (h.ho / 16 + 1)
  | .zone => h.wo / 16 * (h.ho / 16)
  | .gain => (h.wo / 64 + 1) * (h.ho / 64 + 1)

/-- Entry positions of a segment of each part (R43). -/
def segmentSize (part : TablePart) : Nat :=
  match part with
  | .mesh => 15
  | .zone => 120
  | .gain => 30

/-- The least number of groups of `size` that hold `n`: ceil(n / size). -/
def ceilDiv (n size : Nat) : Nat :=
  (n + size - 1) / size

/-- The segment count of a part (R43). -/
def Header.segments (h : Header) (part : TablePart) : Nat :=
  ceilDiv (h.entries part) (segmentSize part)

/-- The entries of a part that a segment stores: a full segment, or what is left in the last (R43). -/
def Header.stored (h : Header) (part : TablePart) (segment : Nat) : Nat :=
  min (segmentSize part) (h.entries part - segmentSize part * segment)

/-- The received-segment set of a part: its numbers in ascending order (R38 case e). -/
def Bank.received (b : Bank) (part : TablePart) : List Nat :=
  match part with
  | .mesh => b.mesh.map Prod.fst
  | .zone => b.zones.map Prod.fst
  | .gain => b.gains.map Prod.fst

/-! ## TABLE OPEN (R41, R42) -/

/-- A width or height brought into range: clamped to 128..1024, rounded down to a multiple of 64
(R41). -/
def takeSize (n : Nat) : Nat :=
  takeValue 128 1024 64 n

/-- The header TABLE OPEN takes (R41). -/
def takeHeader (width height fill : BitVec 16) (label : List Byte) : Header :=
  { wo := takeSize width.toNat, ho := takeSize height.toNat, fill := min fill.toNat 1023, label }

/-- Whether a header was taken as it was sent (R41). -/
def headerUnchanged (width height fill : BitVec 16) (h : Header) : Bool :=
  decide (h.wo = width.toNat) && decide (h.ho = height.toNat) && decide (h.fill = fill.toNat)

/-- The answer to a TABLE OPEN that is taken (R41, TABLE 8-8). -/
def openAnswer (width height fill : BitVec 16) (h : Header) : Answer :=
  { code := if headerUnchanged width height fill h then .done else .clamped
    content := bigEndian 2 h.wo ++ bigEndian 2 h.ho ++ bigEndian 2 h.fill
      ++ bigEndian 2 (h.segments .mesh) ++ [byteOf (h.segments .zone), byteOf (h.segments .gain)] }

/-- A bank opened with a header: nothing received (R42 case a). -/
def Bank.openedWith (h : Header) : Bank :=
  { Bank.emptied with state := .opened, header := some h }

/-- The state with a bank replaced. -/
def State.setBank (s : State) (b : BankId) (x : Bank) : State :=
  s.setViews (s.views.set b x)

/-- TABLE OPEN taken (R42 case a). -/
def takeOpen (b : BankId) (width height fill : BitVec 16) (label : List Byte) (s : State) :
    Answer × State :=
  (openAnswer width height fill (takeHeader width height fill label),
    s.setBank b (Bank.openedWith (takeHeader width height fill label)))

/-- TABLE OPEN by its owner (R42). -/
def ownTableOpen (bank : Byte) (width height fill : BitVec 16) (label : List Byte) (s : State) :
    Answer × State :=
  match bankOf bank.toNat with
  | none => (.bare .badValue, s)
  | some b =>
    match (s.views.get b).state with
    | .active => (.bare .refused, s)
    | .checking => (.bare .busy, s)
    | .valid =>
      if s.views.pendingView = some (.bank b) then (.bare .refused, s)
      else takeOpen b width height fill label s
    | .empty => takeOpen b width height fill label s
    | .opened => takeOpen b width height fill label s

/-! ## TABLE DATA (R44 to R46) -/

/-- A segment stored in a part in ascending segment number, replacing one of the same number (R45). -/
def storeSegment {α : Type} (segment : Nat) (entries : List α) (part : List (Nat × List α)) :
    List (Nat × List α) :=
  match part with
  | [] => [(segment, entries)]
  | x :: rest =>
    if segment < x.1 then (segment, entries) :: x :: rest
    else if segment = x.1 then (segment, entries) :: rest
    else x :: storeSegment segment entries rest

/-- The bank with a segment stored and the number of entries adjusted (R45, R46). Positions beyond
the part's last entry are neither stored nor counted. -/
def Bank.load (b : Bank) (h : Header) (part : TablePart) (segment : Nat) (bytes : List Byte) :
    Bank × Nat :=
  match part with
  | .mesh =>
    let taken := (readMesh bytes).take (h.stored .mesh segment)
    ({ b with mesh := storeSegment segment (taken.map Prod.fst) b.mesh }, taken.countP Prod.snd)
  | .zone =>
    let taken := (readZones bytes).take (h.stored .zone segment)
    ({ b with zones := storeSegment segment (taken.map Prod.fst) b.zones }, taken.countP Prod.snd)
  | .gain =>
    let taken := (readGains bytes).take (h.stored .gain segment)
    ({ b with gains := storeSegment segment (taken.map Prod.fst) b.gains }, taken.countP Prod.snd)

/-- The answer to a TABLE DATA that is taken (R46, TABLE 8-8). -/
def dataAnswer (adjusted : Nat) : Answer :=
  { code := if adjusted = 0 then .done else .clamped, content := [byteOf adjusted] }

/-- The header under which TABLE DATA is taken: that of an OPEN bank (R44 case b). -/
def Bank.openHeader (b : Bank) : Option Header :=
  if b.state = .opened then b.header else none

/-- TABLE DATA for a bank and part, judged and stored (R44 cases b to e). -/
def loadSegment (b : BankId) (part : TablePart) (used : Byte) (number : Nat) (entries : List Byte)
    (s : State) : Answer × State :=
  match (s.views.get b).openHeader with
  | none => (.bare .refused, s)
  | some h =>
    if h.segments part ≤ number then (.bare .badValue, s)
    else if used.toNat < 64 then (.bare .badValue, s)
    else
      (dataAnswer ((s.views.get b).load h part number entries).2,
        s.setBank b ((s.views.get b).load h part number entries).1)

/-- TABLE DATA by its owner (R44). -/
def ownTableData (used : Byte) (bank part : BitVec 4) (number : BitVec 16) (entries : List Byte)
    (s : State) : Answer × State :=
  match bankOf bank.toNat, partOf part.toNat with
  | some b, some p => loadSegment b p used number.toNat entries s
  | none, _ => (.bare .badValue, s)
  | some _, none => (.bare .badValue, s)

/-! ## Table entries by index (R4 to R6) -/

/-- Entry `index` of a part held as segments of `size` entries. -/
def segmentEntry {α : Type} (size index : Nat) (part : List (Nat × List α)) : Option α :=
  match part.lookup (index / size) with
  | none => none
  | some entries => entries[index % size]?

/-- Mesh node `index`; one never received has free values (R38). -/
def Bank.node (b : Bank) (index : Nat) : MeshNode :=
  (segmentEntry (segmentSize .mesh) index b.mesh).getD
    { sx := min (Config.unreceivedColumn index).toNat 20479
      sy := (Config.unreceivedRow index).toNat
      isVoid := Config.unreceivedVoid index }

/-- Zone map entry of cell `index`; one never received has a free value (R38). -/
def Bank.zone (b : Bank) (index : Nat) : Option (Fin 8) :=
  (segmentEntry (segmentSize .zone) index b.zones).getD (Config.unreceivedZone index)

/-- Gain node `index`; one never received has a free value (R38). -/
def Bank.gain (b : Bank) (index : Nat) : Nat :=
  (segmentEntry (segmentSize .gain) index b.gains).getD (Config.unreceivedGain index).toNat

/-! ## TABLE CLOSE and the check (R47 to R50) -/

/-- TABLE CLOSE by its owner: an OPEN bank becomes CHECKING with its check raster fixed (R47). -/
def ownTableClose (bank : Byte) (s : State) : Answer × State :=
  match bankOf bank.toNat with
  | none => (.bare .badValue, s)
  | some b =>
    if (s.views.get b).state = .opened then
      (.bare .accepted, s.setBank b { s.views.get b with
        state := .checking
        checkRaster := some (s.params.sourceWidth, s.params.sourceHeight) })
    else (.bare .refused, s)

/-- The first number below `count` not in a received-segment set (R48). -/
def firstMissing (received : List Nat) (count : Nat) : Option Nat :=
  (List.range count).find? fun k => !received.contains k

/-- The first missing segment, parts in the order MESH, ZONE, GAIN (R48). -/
def Bank.missing (b : Bank) (h : Header) : Option (TablePart × Nat) :=
  match firstMissing (b.received .mesh) (h.segments .mesh) with
  | some k => some (.mesh, k)
  | none =>
    match firstMissing (b.received .zone) (h.segments .zone) with
    | some k => some (.zone, k)
    | none =>
      match firstMissing (b.received .gain) (h.segments .gain) with
      | some k => some (.gain, k)
      | none => none

/-- Whether a node lies within a check raster or is not tested, being VOID (R49). -/
def nodeWithin (wc hc : Nat) (n : MeshNode) : Bool :=
  n.isVoid || (decide (n.sx ≤ (wc - 1) * 16) && decide (n.sy ≤ (hc - 1) * 16))

/-- The verdict of a check (R48, R49). -/
def Bank.check (b : Bank) (h : Header) (wc hc : Nat) : CheckVerdict :=
  match b.missing h with
  | some (part, k) => .incomplete part k
  | none =>
    match (List.range (h.entries .mesh)).find? fun k => !nodeWithin wc hc (b.node k) with
    | some node => .nodeOutside node
    | none => .passed

/-- A bank after its check: VALID when it passed, else EMPTY (R50). -/
def Bank.checked (b : Bank) (verdict : CheckVerdict) : Bank :=
  if verdict = .passed then { b with state := .valid, checkRaster := none } else Bank.emptied

/-- The completion of a bank's check (R50, R52). -/
def State.completeCheck (s : State) (b : BankId) (h : Header) (wc hc : Nat) : State :=
  (s.setViews { s.views.set b ((s.views.get b).checked ((s.views.get b).check h wc hc)) with
      verdict := { bank := some b, verdict := (s.views.get b).check h wc hc
                   raster := some (wc, hc) } }).latch [.tableVerdict]

/-- What a CHECKING bank is checked with: its header and its check raster (R47). -/
def Bank.checkBasis (b : Bank) : Option (Header × Nat × Nat) :=
  if b.state = .checking then
    match b.header, b.checkRaster with
    | some h, some r => some (h, r)
    | none, _ => none
    | some _, none => none
  else none

/-- TABLE CHECK COMPLETION (R50). -/
def execTableCheckCompletion (b : BankId) (s : State) : Host.Outcome State Fault Refusal :=
  .next (match (s.views.get b).checkBasis with
    | none => s
    | some (h, wc, hc) => s.completeCheck b h wc hc)

/-! ## COMMIT VIEW and RAW VIEW (R53, R54) -/

/-- The state with a pending view change. -/
def State.setPendingView (s : State) (v : Option View) : State :=
  s.setViews { s.views with pendingView := v }

/-- COMMIT VIEW by its owner (R53). -/
def ownCommitView (bank : Byte) (s : State) : Answer × State :=
  match bankOf bank.toNat with
  | none => (.bare .badValue, s)
  | some b =>
    match (s.views.get b).state with
    | .valid => (.bare .accepted, s.setPendingView (some (.bank b)))
    | .active => (.bare .done, s.setPendingView none)
    | .empty => (.bare .refused, s)
    | .opened => (.bare .refused, s)
    | .checking => (.bare .refused, s)

/-- RAW VIEW by its owner (R54). -/
def ownRawView (s : State) : Answer × State :=
  (.bare .accepted, s.setPendingView (some .raw))

/-- TABLE OPEN (R42). -/
def execTableOpen (tag bank : Byte) (width height fill : BitVec 16) (label : List Byte)
    (s : State) : Host.Outcome State Fault Refusal :=
  .next (consume tag 3 (ownTableOpen bank width height fill label) s)

/-- TABLE DATA (R44). -/
def execTableData (tag used : Byte) (bank part : BitVec 4) (number : BitVec 16)
    (entries : List Byte) (s : State) : Host.Outcome State Fault Refusal :=
  .next (consume tag 4 (ownTableData used bank part number entries) s)

/-- TABLE CLOSE (R47). -/
def execTableClose (tag bank : Byte) (s : State) : Host.Outcome State Fault Refusal :=
  .next (consume tag 5 (ownTableClose bank) s)

/-- COMMIT VIEW (R53). -/
def execCommitView (tag bank : Byte) (s : State) : Host.Outcome State Fault Refusal :=
  .next (consume tag 6 (ownCommitView bank) s)

/-- RAW VIEW (R54). -/
def execRawView (tag : Byte) (s : State) : Host.Outcome State Fault Refusal :=
  .next (consume tag 7 ownRawView s)

/-! ## Taking up a view change (R23) -/

/-- An ACTIVE bank made VALID. -/
def Bank.retired (b : Bank) : Bank :=
  if b.state = .active then { b with state := .valid } else b

/-- The store with no bank ACTIVE. -/
def ViewBankStore.retired (v : ViewBankStore) : ViewBankStore :=
  { v with bank0 := v.bank0.retired, bank1 := v.bank1.retired }

/-- The store after a Warp Engine frame start has taken up the pending change (R23). -/
def ViewBankStore.takeUp (v : ViewBankStore) : ViewBankStore :=
  match v.pendingView with
  | none => v
  | some (.bank b) =>
    { v.retired.set b { v.retired.get b with state := .active } with pendingView := none }
  | some .raw => { v.retired with pendingView := none }

/-- Whether taking up the pending change swaps the view: not when none is held, nor when it names the
raw view already in force (R23). -/
def ViewBankStore.swaps (v : ViewBankStore) : Bool :=
  match v.pendingView with
  | none => false
  | some (.bank _) => true
  | some .raw => decide (v.inForce ≠ .raw)

/-- The zone map of a view: its size and the zones of its cells in order; the raw view has none (R23). -/
def ViewBankStore.zoneMap (v : ViewBankStore) (view : View) :
    Option (Nat × Nat × List (Option (Fin 8))) :=
  match view with
  | .raw => none
  | .bank b =>
    (v.get b).header.map fun h => (h.wo, h.ho, (List.range (h.entries .zone)).map (v.get b).zone)

/-- Whether a frame start that takes up the pending change changes the zone map (R23). -/
def ViewBankStore.changesZones (v : ViewBankStore) : Bool :=
  v.swaps && decide (v.zoneMap v.inForce ≠ v.takeUp.zoneMap v.takeUp.inForce)

end Sys2Proof.Machine
end

