-- ==== Sys2Proof/Machine/Correction.lean ====
section
/-! DEFINITION. The correction arithmetic (Chapter 1): the five steps that give one output pixel
through a view bank, and the raw view. -/

namespace Sys2Proof.Machine

/-! ## Interpolation (R10, R13, R15) -/

/-- The sum of four corner values weighted by position within a cell of `size` (R10, R13, R15). -/
def cornerSum (size wx wy a b c d : Nat) : Nat :=
  (size - wx) * (size - wy) * a + wx * (size - wy) * b + (size - wx) * wy * c + wx * wy * d

/-- The weighted mean of four corners, rounded with ties upward (R10, R13, R15). -/
def cornerMean (size wx wy a b c d : Nat) : Nat :=
  (cornerSum size wx wy a b c d + size * size / 2) / (size * size)

/-! ## Steps a to e -/

/-- The four mesh corners A, B, C, D of output pixel (x, y) (R8). -/
structure Corners where
  a : MeshNode
  b : MeshNode
  c : MeshNode
  d : MeshNode
  deriving DecidableEq, Repr

/-- Step a: the corners of the pixel's mesh cell (R8). -/
def Bank.corners (k : Bank) (h : Header) (x y : Nat) : Corners :=
  let columns := h.wo / 16 + 1
  let i := y / 16 * columns + x / 16
  { a := k.node i, b := k.node (i + 1), c := k.node (i + columns), d := k.node (i + columns + 1) }

/-- Whether a pixel is a FILL pixel: a corner of its cell is VOID (R9). -/
def Corners.isFill (k : Corners) : Bool :=
  k.a.isVoid || k.b.isVoid || k.c.isVoid || k.d.isVoid

/-- Step b: the source column of a pixel, in sixteenths (R10). -/
def Corners.column (k : Corners) (x y : Nat) : Nat :=
  cornerMean 16 (x % 16) (y % 16) k.a.sx k.b.sx k.c.sx k.d.sx

/-- Step b: the source row of a pixel, in sixteenths (R10). -/
def Corners.row (k : Corners) (x y : Nat) : Nat :=
  cornerMean 16 (x % 16) (y % 16) k.a.sy k.b.sy k.c.sy k.d.sy

/-- A coordinate split into whole pixel and fraction, clamped to a raster of `size` (R11). -/
def splitCoordinate (size s : Nat) : Nat × Nat :=
  if size - 1 < s / 16 then (size - 1, 0) else (s / 16, s % 16)

/-- A source pixel read with replication beyond the raster's edge (R12). -/
def Slot.read (slot : Slot) (column row : Nat) : Nat :=
  slot.pixel (min column (slot.ws - 1)) (min row (slot.hs - 1))

/-- Step c: the sampled value (R12, R13). -/
def Slot.sample (slot : Slot) (sx sy : Nat) : Nat :=
  let (ix, fx) := splitCoordinate slot.ws sx
  let (iy, fy) := splitCoordinate slot.hs sy
  cornerMean 16 fx fy (slot.read ix iy) (slot.read (ix + 1) iy) (slot.read ix (iy + 1))
    (slot.read (ix + 1) (iy + 1))

/-- Step d: the gain of output pixel (x, y), in 1/1024 (R15). -/
def Bank.gainAt (k : Bank) (h : Header) (x y : Nat) : Nat :=
  let columns := h.wo / 64 + 1
  let i := y / 64 * columns + x / 64
  cornerMean 64 (x % 64) (y % 64) (k.gain i) (k.gain (i + 1)) (k.gain (i + columns))
    (k.gain (i + columns + 1))

/-- Step e: the output value (R16). -/
def outputValue (vs g gx : Nat) : Nat :=
  min 1023 ((vs * g * gx + 524288) / 1048576)

/-- The zone of output pixel (x, y): the zone map entry of its mesh cell (R8). -/
def Bank.zoneAt (k : Bank) (h : Header) (x y : Nat) : Option (Fin 8) :=
  k.zone (y / 16 * (h.wo / 16) + x / 16)

/-- An output pixel: its value, and the zone it is counted in, if it is counted (R17). -/
structure OutputPixel where
  value : Nat
  counted : Option (Fin 8)
  deriving DecidableEq, Repr

/-- Output pixel (x, y) through a bank: steps a to e, or FILL (R8 to R17). -/
def bankPixel (k : Bank) (h : Header) (slot : Slot) (gx x y : Nat) : OutputPixel :=
  let corners := k.corners h x y
  if corners.isFill then { value := h.fill, counted := none }
  else
    { value := outputValue (slot.sample (corners.column x y) (corners.row x y)) (k.gainAt h x y) gx
      counted := k.zoneAt h x y }

/-- Output pixel (x, y) of the raw view (R19). -/
def rawPixel (slot : Slot) (gx x y : Nat) : OutputPixel :=
  { value := min 1023 ((slot.pixel x y * gx + 512) / 1024), counted := none }

end Sys2Proof.Machine
end

