-- ==== Sys2Proof/Machine/Warp.lean ====
section
/-! DEFINITION. The Warp Engine (Chapter 2): frame start, room in the own video queue, rows and their
cells, zone statistics, and frame end. -/

namespace Sys2Proof.Machine

/-! ## Frame start (R22 to R26) -/

/-- The output raster of a view over a slot (R2). -/
def ViewBankStore.outputSize (v : ViewBankStore) (view : View) (slot : Slot) : Option (Nat × Nat) :=
  match view with
  | .raw => some (min slot.ws 1024, slot.hs)
  | .bank b => (v.get b).header.map fun h => (h.wo, h.ho)

/-- The flags of a FRAME START (TABLE 8-5, bytes 17..18). That bits 15..7 are 0 is the model's choice
(assumption 36). -/
def frameFlags (r : FrameRecord) (resetSeen : Bool) : Nat :=
  bit (r.markers.any Option.isSome) + 2 * bit r.dark + 4 * bit r.derated + 8 * bit r.shutdown
    + 16 * bit r.ledFault + 32 * bit r.short + 64 * bit resetSeen

/-- The content of a FRAME START cell (R25, TABLE 8-5). -/
def frameStartContent (number : BitVec 16) (r : FrameRecord) (view : View) (wo ho : Nat)
    (temperature : Int) (resetSeen : Bool) : List Byte :=
  halfBytes number ++ [byteOf (causeCode r.cause), byteOf (modeCode r.mode)]
    ++ signedBytes r.tag ++ signedBytes r.position
    ++ bigEndian 2 r.eEff ++ bigEndian 2 r.gx
    ++ [byteOf (viewCode view)]
    ++ bigEndian 2 (frameFlags r resetSeen)
    ++ [byteOf r.skippedBefore]
    ++ bigEndian 2 wo ++ bigEndian 2 ho
    ++ (r.applied.map fun d => bigEndian 2 d).toList.flatten
    ++ [temperatureByte temperature]

/-- What a frame start works on: the slot taken, its record, the raster of the view then in force. -/
structure FrameTake where
  slot : SlotId
  rest : List SlotId
  record : FrameRecord
  wo : Nat
  ho : Nat
  deriving DecidableEq, Repr

/-- The frame an IDLE engine would start now: the earliest READY slot (R22). -/
def State.nextFrame (s : State) : Option FrameTake :=
  match s.engine.run, s.slots.readyOrder with
  | none, i :: rest =>
    match (s.slots.get i).record,
        s.views.takeUp.outputSize s.views.takeUp.inForce (s.slots.get i) with
    | some r, some (wo, ho) => some { slot := i, rest, record := r, wo, ho }
    | none, _ => none
    | some _, none => none
  | none, [] => none
  | some _, _ => none

/-- The FRAME START cell built at a frame start (R25, R26). -/
def State.frameStartCell (s : State) (t : FrameTake) : Cell :=
  createCell s.link .frameStart 0
    (frameStartContent s.engine.nextNumber t.record s.views.takeUp.inForce t.wo t.ho
      s.guard.temperature s.engine.resetMark)

/-- The engine RUNNING on a frame just started (R22, R24, R26, R30). -/
def State.startedEngine (s : State) (t : FrameTake) : WarpEngine :=
  { s.engine with
    run := some
      { stalled := false, slot := t.slot, view := s.views.takeUp.inForce
        number := s.engine.nextNumber, wo := t.wo, ho := t.ho
        next := .frameStart (s.frameStartCell t) }
    nextNumber := s.engine.nextNumber + 1
    accumulators := Eight.all ZoneAccumulator.zero
    resetMark := false }

/-- The pool with the slot taken WARPING (R22). -/
def SlotPool.takeReady (p : SlotPool) (i : SlotId) (rest : List SlotId) : SlotPool :=
  { p.set i { p.get i with state := .warping } with readyOrder := rest }

/-- A frame started (R22 to R26): the view change taken up, tunes aborted when the zone map changes,
the events latched while RUNNING. -/
def State.startFrame (s : State) (t : FrameTake) : State :=
  ((((s.setEngine (s.startedEngine t)).setSlots (s.slots.takeReady t.slot t.rest)).setViews
      s.views.takeUp).setLamps
    (if s.views.changesZones then s.lamps.abortTunes else s.lamps)).latch
    (eventIf s.views.swaps .bankSwapped
      ++ eventIf (s.views.changesZones && s.lamps.anyTuning) .tuneDone)

/-- WARP FRAME START (R22). -/
def execWarpFrameStart (s : State) : Host.Outcome State Fault Refusal :=
  .next (match s.nextFrame with
    | none => s
    | some t => s.startFrame t)

/-! ## Room in the own video queue (R27) -/

/-- The places the next item needs: one for FRAME START and FRAME END, ceil(Wo/48) for a row (R27). -/
def Run.places (r : Run) : Nat :=
  match r.next with
  | .frameStart _ => 1
  | .row _ => ceilDiv r.wo 48
  | .frameEnd => 1

/-- Whether `n` more places of the own video queue are free, reserved places counted as occupied (R27). -/
def State.roomFor (s : State) (n : Nat) : Bool :=
  decide (s.link.ownVideo.length + s.engine.reserved + n ≤ Config.ownVideoCapacity)

/-- The engine with its run changed. -/
def State.setRun (s : State) (r : Run) : State :=
  s.setEngine { s.engine with run := some r }

/-- The engine no longer STALLED, the places of its item reserved (R27). -/
def State.reservePlaces (s : State) (r : Run) : State :=
  s.setEngine { s.engine with run := some { r with stalled := false }, reserved := r.places }

/-- The engine as it comes to its next item: places already reserved as a stall ended, or reserved
now, or not free and the engine STALLED (R27). -/
def State.claimPlaces (s : State) (r : Run) : State × Bool :=
  if s.engine.reserved = r.places then (s, true)
  else if s.roomFor r.places then (s.reservePlaces r, true)
  else (s.setRun { r with stalled := true }, false)

/-- Cells placed into reserved places (R27). -/
def State.placeVideo (s : State) (cells : List Cell) : State :=
  (s.setLink { s.link with ownVideo := s.link.ownVideo ++ cells }).setEngine
    { s.engine with reserved := s.engine.reserved - cells.length }

/-- A stall ends once the arbiter has freed the places required (R27). -/
def State.endStall (s : State) : State :=
  match s.engine.run with
  | none => s
  | some r => if r.stalled && s.roomFor r.places then s.reservePlaces r else s

/-! ## Rows (R28, R30) -/

/-- A list cut into groups of `size`, the last holding what is left; `fuel` bounds the groups. -/
def groups {α : Type} (fuel size : Nat) (l : List α) : List (List α) :=
  match fuel with
  | 0 => []
  | fuel + 1 =>
    match l with
    | [] => []
    | a :: rest => (a :: rest).take size :: groups fuel size ((a :: rest).drop size)

/-- Four 10-bit pixels packed into five bytes, most significant bit first (TABLE 8-5). -/
def packFour (a b c d : Nat) : List Byte :=
  bigEndian 5 (a * 2 ^ 30 + b * 2 ^ 20 + c * 2 ^ 10 + d)

/-- Pixels packed most significant bit first; a ROW cell holds a multiple of 16 of them (R20). -/
def packPixels (pixels : List Nat) : List Byte :=
  match pixels with
  | a :: b :: c :: d :: rest => packFour a b c d ++ packPixels rest
  | [] => []
  | [a] => packFour a 0 0 0
  | [a, b] => packFour a b 0 0
  | [a, b, c] => packFour a b c 0

/-- The content of a ROW cell (TABLE 8-5). -/
def rowContent (number : BitVec 16) (row segment : Nat) (pixels : List Nat) : List Byte :=
  [number.extractLsb' 0 8] ++ bigEndian 2 row ++ [byteOf segment] ++ packPixels pixels

/-- The ROW cells of a row in ascending segment index (R28). -/
def rowCells (l : LinkUnit) (number : BitVec 16) (row : Nat) (values : List Nat) : List Cell :=
  (groups values.length 48 values).mapIdx fun k pixels =>
    createCell l .row 0 (rowContent number row k pixels)

/-- The compensation of a slot's frame (R18); a slot in hand always holds its record (R60). -/
def Slot.gx (slot : Slot) : Option Nat :=
  slot.record.map FrameRecord.gx

/-- One output pixel of the frame in hand (Chapter 1). -/
def viewPixel (v : ViewBankStore) (view : View) (slot : Slot) (gx x y : Nat) :
    Option OutputPixel :=
  match view with
  | .raw => some (rawPixel slot gx x y)
  | .bank b => (v.get b).header.map fun h => bankPixel (v.get b) h slot gx x y

/-- An output row of the frame in hand, left to right (R28). -/
def State.outputRow (s : State) (r : Run) (y : Nat) : Option (List OutputPixel) :=
  match (s.slots.get r.slot).gx with
  | none => none
  | some gx => (List.range r.wo).mapM fun x => viewPixel s.views r.view (s.slots.get r.slot) gx x y

/-- A pixel's contribution to the accumulator of a zone it is counted in (R17, R30). -/
def ZoneAccumulator.add (a : ZoneAccumulator) (value : Nat) : ZoneAccumulator :=
  { sum := a.sum + value, count := a.count + 1
    fullScale := a.fullScale + bit (decide (value = 1023)) }

/-- The accumulators after one pixel (R30). -/
def accumulatePixel (acc : Eight ZoneAccumulator) (p : OutputPixel) : Eight ZoneAccumulator :=
  match p.counted with
  | none => acc
  | some z => acc.set z ((acc.get z).add p.value)

/-- What the engine places after a row (R28, TABLE 2-1). -/
def Run.afterRow (r : Run) (y : Nat) : NextPlace :=
  if y + 1 < r.ho then .row (y + 1) else .frameEnd

/-- A row produced into its reserved places (R28, R30). -/
def State.produceRow (s : State) (r : Run) (y : Nat) (pixels : List OutputPixel) : State :=
  let t := s.placeVideo (rowCells s.link r.number y (pixels.map OutputPixel.value))
  t.setEngine { t.engine with
    run := some { r with stalled := false, next := r.afterRow y }
    accumulators := pixels.foldl accumulatePixel t.engine.accumulators }

/-- FRAME START or a row produced once its places are reserved (R27). -/
def State.produce (s : State) (r : Run) : State :=
  match r.next with
  | .frameStart cell =>
    let t := s.placeVideo [cell]
    t.setRun { r with stalled := false, next := .row 0 }
  | .row y =>
    match s.outputRow r y with
    | none => s
    | some pixels => s.produceRow r y pixels
  | .frameEnd => s

/-- ITEM PRODUCTION (R27, R28): the FRAME START or the next row, or a stall. -/
def execItemProduction (s : State) : Host.Outcome State Fault Refusal :=
  .next (match s.engine.run with
    | none => s
    | some r =>
      if r.next = .frameEnd then s
      else if (s.claimPlaces r).2 then (s.claimPlaces r).1.produce r
      else (s.claimPlaces r).1)

/-! ## Frame end (R31 to R33) -/

/-- The result of a zone (R31). -/
def ZoneAccumulator.result (a : ZoneAccumulator) : ZoneResult :=
  if a.count = 0 then ZoneResult.nothing
  else { mean := a.sum / a.count, count := a.count, unseen := false
         glare := decide (a.count / 8 < a.fullScale) }

/-- A zone result as two bytes (TABLE 8-5): mean, UNSEEN in bit 14, GLARE in bit 15.
That bits 13..10 are 0 is the model's choice (assumption 36). -/
def ZoneResult.bytes (z : ZoneResult) : List Byte :=
  bigEndian 2 (z.mean + 16384 * bit z.unseen + 32768 * bit z.glare)

/-- The content of a FRAME END cell (R32, TABLE 8-5). -/
def frameEndContent (number : BitVec 16) (zones : Eight ZoneResult) (r : FrameRecord) : List Byte :=
  halfBytes number ++ (zones.map ZoneResult.bytes).toList.flatten ++ bigEndian 2 r.unrepaired
    ++ bigEndian 2 r.repaired

/-- The eight zone results of the frame in hand (R31). -/
def WarpEngine.results (e : WarpEngine) : Eight ZoneResult :=
  e.accumulators.map ZoneAccumulator.result

/-- The engine IDLE with its last zone results replaced (R32 cases c and e, R33). That the accumulators
keep the ended frame's sums until the next start is the model's choice (assumption 30). -/
def WarpEngine.ended (e : WarpEngine) (number : BitVec 16) (zones : Eight ZoneResult) : WarpEngine :=
  { e with run := none, lastFrame := some number, lastZones := zones }

/-- The STATUS occasion of a FRAME END (R174). -/
def State.frameEndStatus (s : State) : State :=
  s.setLink (if frameEndCalls s then statusOccasion s else s.link)

/-- A frame ended (R32): the FRAME END placed, the slot freed, the results handed over, the STATUS
occasion judged after the events of the hand-over, the engine IDLE. -/
def State.endWarp (s : State) (r : Run) (record : FrameRecord) : State :=
  let zones := s.engine.results
  let t := s.placeVideo [createCell s.link .frameEnd 0 (frameEndContent r.number zones record)]
  let u := ((t.setSlots (t.slots.set r.slot Slot.freed)).handFrame record zones).frameEndStatus
  u.setEngine (u.engine.ended r.number zones)

/-- WARP FRAME END (R32). -/
def execWarpFrameEnd (s : State) : Host.Outcome State Fault Refusal :=
  .next (match s.engine.run with
    | none => s
    | some r =>
      match r.next, (s.slots.get r.slot).record with
      | .frameEnd, some record =>
        if (s.claimPlaces r).2 then (s.claimPlaces r).1.endWarp r record else (s.claimPlaces r).1
      | .frameEnd, none => s
      | .frameStart _, _ => s
      | .row _, _ => s)

end Sys2Proof.Machine
end

