-- ==== Sys2Proof/Machine/Link.lean ====
section
/-! DEFINITION. The Link Unit's links (Chapters 8 and 9): receipt of cells and its errors, routing,
roll call, ports, flow-control symbols, the tether arbiter and the chain outbound port. A consumed
COMMAND is executed in Commands.lean. -/

namespace Sys2Proof.Machine

/-! ## Receipt (R149) -/

/-- A port of the Link Unit. -/
def LinkUnit.port (l : LinkUnit) (p : PortId) : Port :=
  match p with
  | .tether => l.tether
  | .chain => l.chain

/-- The Link Unit with a port changed. -/
def LinkUnit.setPort (l : LinkUnit) (p : PortId) (x : Port) : LinkUnit :=
  match p with
  | .tether => { l with tether := x }
  | .chain => { l with chain := x }

/-- Whether a kind travels downward (R146 case a). -/
def isDownward (k : CellKind) : Bool :=
  match k with
  | .command => true
  | .rollCall => true
  | .reply => false
  | .rollCallReply => false
  | .status => false
  | .frameStart => false
  | .row => false
  | .frameEnd => false

/-- Whether a kind travels in the direction in which a port receives (R149). -/
def travelsInto (p : PortId) (k : CellKind) : Bool :=
  match p with
  | .tether => isDownward k
  | .chain => !isDownward k

/-- Whether a complete cell with a good check sequence is accepted on a port (R149): used length at
most 64, the right direction, and no COMMAND with destination 0 on the tether port. -/
def acceptable (p : PortId) (c : Cell) : Bool :=
  decide (c.used.toNat ≤ 64) && travelsInto p c.kind
    && !(decide (p = .tether) && decide (c.kind = .command) && decide (c.dest = 0))

/-- The cell that 68 bytes of header and payload spell, if their kind is one of the eight (R149). -/
def cellOf (body : List Byte) : Option Cell :=
  (kindOf (payloadByte body 0).toNat).map fun kind =>
    { kind, source := (payloadByte body 1).extractLsb' 4 4, dest := (payloadByte body 1).extractLsb' 0 4
      tag := payloadByte body 2, used := payloadByte body 3, payload := body.drop 4 }

/-- Whether 70 received bytes carry the check sequence of their first 68 (R147). -/
def checkHolds (bytes : List Byte) : Bool :=
  decide (bytes.length = 70)
    && decide (checkSequence (bytes.take 68) = payloadHalf bytes 68)

/-- The cell accepted on a port from 70 received bytes, or none when R149 discards them. -/
def acceptedCell (p : PortId) (bytes : List Byte) : Option Cell :=
  if checkHolds bytes then
    match cellOf (bytes.take 68) with
    | none => none
    | some c => if acceptable p c then some c else none
  else none

/-- One cell error counted on a port (R149). -/
def State.cellError (s : State) (p : PortId) : State :=
  s.count fun c => c.cellError p

/-! ## Forwarding (R153, R154, R156) -/

/-- The Link Unit with a cell at the end of the down-forward queue, or discarded and counted when 16
stand in it (R153 cases a and b, R154). -/
def LinkUnit.forwardDown (l : LinkUnit) (c : Cell) : LinkUnit :=
  if l.downForward.length < Config.downForwardCapacity then
    ({ l with downForward := l.downForward ++ [c] } : LinkUnit).judgeDownHold
  else { l with counters := l.counters.downDiscard 1 }

/-- The NO SUCH HEAD reply to a unicast COMMAND (R153 case c, TABLE 8-8). -/
def noSuchHead (s : State) (c : Cell) : Cell :=
  replyCell s c.tag (payloadByte (readablePayload c.used c.payload) 0)
    { code := .noSuchHead, content := [byteOf c.dest.toNat] }

/-- A COMMAND to be forwarded down (R153). -/
def State.forwardCommand (s : State) (c : Cell) : State :=
  if s.link.chain.up then s.setLink (s.link.forwardDown c)
  else if c.dest = 15 then s
  else if s.link.managementFree then s.setLink (s.link.placeManagement (noSuchHead s c))
  else s.count Counters.dropReply

/-- The Link Unit with an upward cell at the end of the up-forward queue, or discarded and counted
when 128 stand in it (R156). -/
def LinkUnit.forwardUp (l : LinkUnit) (c : Cell) : LinkUnit :=
  if l.upForward.length < Config.upForwardCapacity then
    ({ l with upForward := l.upForward ++ [c] } : LinkUnit).judgeUpHold
  else
    { l with counters :=
        { l.counters with upForwardDiscards := bump 1 l.counters.upForwardDiscards } }

/-- A cell taken from the chain port (R149, R156): nothing is received while the port is DOWN. -/
def State.receiveUpward (s : State) (c : Cell) : State :=
  if s.link.chain.up then
    if acceptable .chain c then s.setLink (s.link.forwardUp c) else s.cellError .chain
  else s

/-- UPWARD CELL RECEIPT (R156). -/
def execUpwardCellReceipt (c : Cell) (s : State) : Host.Outcome State Fault Refusal :=
  .next (s.receiveUpward c)

/-! ## Roll call (R162 to R164) -/

/-- The count a ROLL CALL carries (TABLE 8-4). -/
def rollCount (c : Cell) : Nat :=
  (payloadByte (readablePayload c.used c.payload) 0).toNat

/-- A presence record of this head at a position (section 9.2, TABLE 8-4). -/
def presenceRecord (s : State) (position : Nat) : List Byte :=
  [byteOf position] ++ bigEndian 2 Config.partCode ++ [byteOf Config.revisionCode]
    ++ bigEndian 6 Config.serialNumber.toNat ++ [byteOf Config.segmentCount, s.summary]

/-- The cell with this head's record appended after the records present, count and used length
raised (R162); the byte of the OVERLONG mark stays as received (assumption 35). -/
def appendPresence (s : State) (c : Cell) : Cell :=
  let old := rollCount c
  let p := readablePayload c.used c.payload
  { c with
    used := byteOf (2 + 12 * (old + 1))
    payload := padPayload ([byteOf (old + 1), payloadByte p 1] ++ (p.drop 2).take (12 * old)
      ++ presenceRecord s (old + 1)) }

/-- A ROLL CALL turned into a ROLL CALL REPLY, a cell of this head's own (R164). -/
def turnAround (l : LinkUnit) (c : Cell) : Cell :=
  { c with kind := .rollCallReply, source := l.sourcePosition, dest := 0 }

/-- The cell with the OVERLONG mark set, its used length as received (R163, TABLE 8-4). That the mark is set
though the used length is 1, and that the other bits of its byte stay as received, is the model's choice
(assumption 35). -/
def markOverlong (c : Cell) : Cell :=
  let p := readablePayload c.used c.payload
  { c with payload := p.set 1 (payloadByte p 1 ||| 1) }

/-- The head position set (R161). -/
def State.setHead (s : State) (position : Option Nat) : State :=
  s.setLink { s.link with position }

/-- A ROLL CALL of count 0..3 with the chain port UP (R162 case a). -/
def State.passRollCall (s : State) (c : Cell) : State :=
  if s.link.downForward.length < Config.downForwardCapacity then
    let t := s.setHead (some (rollCount c + 1))
    t.setLink (t.link.forwardDown (appendPresence s c))
  else s.count fun k => k.downDiscard 1

/-- A ROLL CALL of count 0..3 with the chain port DOWN (R162 case b). -/
def State.turnRollCall (s : State) (c : Cell) : State :=
  if s.link.managementFree then
    let t := s.setHead (some (rollCount c + 1))
    t.setLink (t.link.placeManagement (turnAround t.link (appendPresence s c)))
  else s.count Counters.dropReply

/-- A ROLL CALL of count 4 or more: a fifth head becomes UNASSIGNED and returns it OVERLONG (R163). -/
def State.overlongRollCall (s : State) (c : Cell) : State :=
  if s.link.managementFree then
    let t := s.setHead none
    t.setLink (t.link.placeManagement (turnAround t.link (markOverlong c)))
  else s.count Counters.dropReply

/-- A ROLL CALL accepted on the tether port (R162, R163). -/
def State.takeRollCall (s : State) (c : Cell) : State :=
  if 4 ≤ rollCount c then s.overlongRollCall c
  else if s.link.chain.up then s.passRollCall c
  else s.turnRollCall c

/-- ROLL CALL (R162): nothing is received while the tether port is DOWN. -/
def execRollCall (source dest : BitVec 4) (tag used : Byte) (payload : List Byte) (s : State) :
    Host.Outcome State Fault Refusal :=
  .next (
    if s.link.tether.up then
      if acceptable .tether { kind := .rollCall, source, dest, tag, used, payload } then
        s.takeRollCall { kind := .rollCall, source, dest, tag, used, payload }
      else s.cellError .tether
    else s)

/-! ## Ports and symbols (R148, R150, R155) -/

/-- A queued cell met by the flush of the down-forward queue: a ROLL CALL is turned around into the
management queue or, with no place free, dropped; a COMMAND is discarded (R155, R164). -/
def LinkUnit.flushCell (l : LinkUnit) (c : Cell) : LinkUnit :=
  if c.kind = .rollCall then
    if l.managementFree then l.placeManagement (turnAround l c)
    else { l with counters := l.counters.dropReply }
  else { l with counters := l.counters.downDiscard 1 }

/-- The down-forward queue emptied as the chain port goes DOWN (R155). -/
def LinkUnit.flushDown (l : LinkUnit) : LinkUnit :=
  let t := l.downForward.foldl LinkUnit.flushCell { l with downForward := [] }
  { t with tether := t.tether.ask false }

/-- A port as it goes DOWN: HOLD received clear, the cell being sent lost, no symbols (R148, R150). -/
def Port.lost (p : Port) : Port :=
  { p with up := false, holdReceived := false, sending := none, lastSymbol := none }

/-- What a chain port going DOWN does to the down-forward queue (R155). -/
def LinkUnit.flushIfChain (l : LinkUnit) (p : PortId) : LinkUnit :=
  match p with
  | .tether => l
  | .chain => l.flushDown

/-- A cell being received as the port goes DOWN is a cell error of that port (R148, R149). -/
def Counters.cutShort (c : Counters) (p : PortId) (midCell : Bool) : Counters :=
  if midCell then c.cellError p else c

/-- The Link Unit with a port DOWN, a cell cut short counted, and the down-forward queue flushed when
it is the chain port (R148, R149, R155). -/
def LinkUnit.portLost (l : LinkUnit) (p : PortId) (midCell : Bool) : LinkUnit :=
  ({ l.setPort p (l.port p).lost with
    counters := l.counters.cutShort p midCell } : LinkUnit).flushIfChain p

/-- An UP port gone DOWN (R148, R155). -/
def State.portDown (s : State) (p : PortId) (midCell : Bool) : State :=
  if (s.link.port p).up then (s.setLink (s.link.portLost p midCell)).latch [.link] else s

/-- PORT LOCK LOSS (R148). -/
def execPortLockLoss (p : PortId) (midCell : Bool) (s : State) : Host.Outcome State Fault Refusal :=
  .next (s.portDown p midCell)

/-- PORT SYMBOL TIMEOUT (R148). -/
def execPortSymbolTimeout (p : PortId) (midCell : Bool) (s : State) :
    Host.Outcome State Fault Refusal :=
  .next (s.portDown p midCell)

/-- A port as it comes UP: the symbol of its present HOLD sent state goes out (R150). -/
def Port.trained (p : Port) : Port :=
  { p with up := true, lastSymbol := some (if p.holdSent then .hold else .go) }

/-- PORT UP (R148, R150). -/
def execPortUp (p : PortId) (s : State) : Host.Outcome State Fault Refusal :=
  .next (
    if (s.link.port p).up then s
    else (s.setLink (s.link.setPort p (s.link.port p).trained)).latch [.link])

/-- A flow-control symbol received on an UP port (R150). -/
def State.receiveSymbol (s : State) (p : PortId) (h : Bool) : State :=
  if (s.link.port p).up then
    s.setLink (s.link.setPort p { s.link.port p with holdReceived := h })
  else s

/-- HOLD (R150). -/
def execHold (p : PortId) (s : State) : Host.Outcome State Fault Refusal :=
  .next (s.receiveSymbol p true)

/-- GO (R150). -/
def execGo (p : PortId) (s : State) : Host.Outcome State Fault Refusal :=
  .next (s.receiveSymbol p false)

/-! ## Sending (R157, R158) -/

/-- Whether a port may begin a cell (R157, R158). -/
def Port.maySend (p : Port) : Bool :=
  p.up && !p.holdReceived

/-- The tether port at a cell boundary, with the cell it begins, if any. -/
def LinkUnit.beginTether (l : LinkUnit) (c : Option Cell) : LinkUnit :=
  { l with tether := { l.tether with sending := c.map cellWire } }

/-- A place of the management queue freed: an owed STATUS cell takes it at once (R168). -/
def State.payStatus (s : State) : State :=
  if s.link.statusOwed then s.setLink { queueStatus s with statusOwed := false } else s

/-- The choice of a management cell (R157 case a, R168). -/
def State.chooseManagement (s : State) (c : Cell) (rest : List Cell) : State :=
  (s.setLink ({ s.link with management := rest } |>.beginTether (some c))).payStatus

/-- The choice of an own video cell (R157 case b); a stall may end at it (R27). -/
def State.chooseOwn (s : State) (c : Cell) (rest : List Cell) : State :=
  (s.setLink ({ s.link with ownVideo := rest, turn := .upForward } |>.beginTether (some c))).endStall

/-- The choice of a forwarded cell (R157 case b); GO may be sent at it (R156). -/
def State.chooseForwarded (s : State) (c : Cell) (rest : List Cell) : State :=
  s.setLink ({ s.link with upForward := rest, turn := .ownVideo } |>.beginTether (some c)).judgeUpHold

/-- The arbiter's choice between the two video queues by the turn (R157 case b). -/
def State.chooseVideo (s : State) : State :=
  match s.link.turn, s.link.ownVideo, s.link.upForward with
  | .ownVideo, c :: rest, _ => s.chooseOwn c rest
  | .ownVideo, [], c :: rest => s.chooseForwarded c rest
  | .upForward, _, c :: rest => s.chooseForwarded c rest
  | .upForward, c :: rest, [] => s.chooseOwn c rest
  | .ownVideo, [], [] => s.setLink (s.link.beginTether none)
  | .upForward, [], [] => s.setLink (s.link.beginTether none)

/-- TETHER ARBITER CHOICE at a cell boundary (R157). -/
def execTetherArbiterChoice (s : State) : Host.Outcome State Fault Refusal :=
  .next (
    if s.link.tether.maySend then
      match s.link.management with
      | c :: rest => s.chooseManagement c rest
      | [] => s.chooseVideo
    else s.setLink (s.link.beginTether none))

/-- The chain port at a cell boundary, with the cell it begins, if any. -/
def LinkUnit.beginChain (l : LinkUnit) (c : Option Cell) : LinkUnit :=
  { l with chain := { l.chain with sending := c.map cellWire } }

/-- CHAIN OUTBOUND SEND at a cell boundary (R158). -/
def execChainOutboundSend (s : State) : Host.Outcome State Fault Refusal :=
  .next (
    if s.link.chain.maySend then
      match s.link.downForward with
      | c :: rest =>
        s.setLink ({ s.link with downForward := rest } |>.beginChain (some c)).judgeDownHold
      | [] => s.setLink (s.link.beginChain none)
    else s.setLink (s.link.beginChain none))

end Sys2Proof.Machine
end

