-- ==== Sys2Proof/Machine/Commands.lean ====
section
/-! DEFINITION. The commands of Chapter 10: enquiries, the parameters not owned above, ACK RESET,
RESTART, and the execution of a consumed COMMAND cell. -/

namespace Sys2Proof.Machine

/-! ## Enquiries (R169, TABLE 8-9) -/

/-- The answer to a READ of an item: DONE with the item's content (R169). -/
def readAnswer (item : Nat) (content : List Byte) : Answer :=
  { code := .done, content := byteOf item :: content }

/-- IDENTITY (item 1). -/
def identityContent (s : State) : List Byte :=
  bigEndian 2 Config.partCode ++ [byteOf Config.revisionCode]
    ++ bigEndian 6 Config.serialNumber.toNat
    ++ [byteOf Config.segmentCount, byteOf (s.link.position.getD 0)]

/-- The eleven counters in the order of TABLE 10-4. -/
def Counters.toList (c : Counters) : List Nat :=
  [c.sourceSkipped, c.unsolicitedFrames, c.sourceLinesAdjusted, c.odoGlitches, c.triggerOverruns,
    c.sensorTimeouts, c.tetherCellErrors, c.chainCellErrors, c.downForwardDiscards,
    c.upForwardDiscards, c.replyDropped]

/-- COUNTERS (item 3): the counters and the present counts of the four queues. That the own video queue's
count leaves out reserved places is the model's choice (assumption 29). -/
def countersContent (s : State) : List Byte :=
  s.link.counters.toList.flatMap (bigEndian 4)
    ++ [byteOf s.link.ownVideo.length, byteOf s.link.management.length,
      byteOf s.link.upForward.length, byteOf s.link.downForward.length]

/-- The presence marks of ZONE STATS (item 4, byte 5). That bits 7..6 are 0 is the model's choice
(assumption 36). -/
def presenceMarks (s : State) (d : SegmentDrive) : Nat :=
  bit s.engine.lastFrame.isSome + 2 * bit s.lamps.pendingCycle.isSome + 4 * bit d.isTuning
    + 8 * bit (match d.tune with
        | .tuning _ _ first _ => first.isSome
        | .steady => false
        | .holdoff _ => false)
    + 16 * bit d.final.isSome + 32 * bit d.reseed

/-- The tune fields of ZONE STATS, absent ones as 0 (item 4, bytes 19..27): state, trial index, trial
duty, first exposure of trial, pre-tune duty, holdoff remaining. -/
def tuneFields (t : Tune) : List Byte :=
  match t with
  | .steady => [byteOf (tuneCode t), 0] ++ bigEndian 2 0 ++ bigEndian 2 0 ++ bigEndian 2 0 ++ [0]
  | .tuning trial duty first preTune =>
    [byteOf (tuneCode t), byteOf trial] ++ bigEndian 2 duty ++ halfBytes (first.getD 0)
      ++ bigEndian 2 preTune ++ [0]
  | .holdoff remaining =>
    [byteOf (tuneCode t), 0] ++ bigEndian 2 0 ++ bigEndian 2 0 ++ bigEndian 2 0 ++ [byteOf remaining]

/-- ZONE STATS (item 4) for a segment. -/
def zoneStatsContent (s : State) (i : Fin 8) : List Byte :=
  let d := s.lamps.segments.get i
  let z := s.engine.lastZones.get i
  [byteOf i.val, byteOf (presenceMarks s d)]
    ++ halfBytes (s.engine.lastFrame.getD 0)
    ++ z.bytes
    ++ bigEndian 3 z.count
    ++ [byteOf s.lamps.cycle, byteOf (s.lamps.pendingCycle.getD 0)]
    ++ bigEndian 2 d.staged ++ bigEndian 2 d.applied
    ++ tuneFields d.tune
    ++ bigEndian 2 d.reference
    ++ [byteOf (tuneVerdictCode d.verdict)]
    ++ bigEndian 2 ((d.final.map Prod.fst).getD 0) ++ bigEndian 2 ((d.final.map Prod.snd).getD 0)

/-- A bank in BANK INFO (item 5): state and, when it is not EMPTY, header and segment counts. -/
def bankInfo (b : Bank) : List Byte :=
  byteOf (bankStateCode b.state) ::
    match b.header with
    | none => List.replicate 22 0
    | some h =>
      bigEndian 2 h.wo ++ bigEndian 2 h.ho ++ bigEndian 2 h.fill ++ h.label
        ++ bigEndian 2 (h.segments .mesh) ++ bigEndian 2 (b.received .mesh).length
        ++ [byteOf (h.segments .zone), byteOf (b.received .zone).length,
          byteOf (h.segments .gain), byteOf (b.received .gain).length]

/-- BANK INFO (item 5, R56). -/
def bankInfoContent (s : State) : List Byte :=
  bankInfo s.views.bank0 ++ bankInfo s.views.bank1
    ++ [byteOf (viewCode s.views.inForce + 16 * pendingViewCode s.views.pendingView)]

/-- The verdict fields of TABLE VERDICT: verdict, part, segment or node. -/
def verdictFields (v : CheckVerdict) : List Byte :=
  match v with
  | .none => [0, 0, 0, 0]
  | .passed => [1, 0, 0, 0]
  | .incomplete part segment => [2, byteOf (partCode part)] ++ bigEndian 2 segment
  | .nodeOutside node => [3, 0] ++ bigEndian 2 node

/-- The bank field of TABLE VERDICT: the bank last closed, 15 where none was. -/
def verdictBank (b : Option BankId) : Byte :=
  match b with
  | none => 15
  | some .bank0 => 0
  | some .bank1 => 1

/-- TABLE VERDICT (item 6, R52). -/
def verdictContent (r : VerdictRecord) : List Byte :=
  [verdictBank r.bank] ++ verdictFields r.verdict
    ++ bigEndian 2 ((r.raster.map Prod.fst).getD 0) ++ bigEndian 2 ((r.raster.map Prod.snd).getD 0)

/-- A defect entry as sent (TABLE 8-3). -/
def defectBytes (e : DefectEntry) : List Byte :=
  defectEntryBytes (BitVec.ofNat 10 e.row) (BitVec.ofNat 11 e.column)
    (BitVec.ofNat 2 (methodCode e.method)) (BitVec.ofNat 1 (originCode e.origin))

/-- An overflow count in its two bytes (TABLE 8-9, item 7, bytes 13..14); what stands there for a count
they cannot hold is a free value (assumption 31). -/
def overflowBytes (overflow : Nat) : List Byte :=
  if overflow < 65536 then bigEndian 2 overflow else halfBytes (Config.wideOverflow overflow)

/-- The last survey result as sent (TABLE 8-9, item 7, bytes 10..16). -/
def surveyResultBytes (r : Option SurveyResult) : List Byte :=
  match r with
  | none => [0] ++ bigEndian 2 0 ++ bigEndian 2 0 ++ bigEndian 2 0
  | some r => [1] ++ bigEndian 2 r.added ++ overflowBytes r.overflow ++ halfBytes r.sequence

/-- DEFECT ENTRIES (item 7, R78) from a starting index. -/
def defectEntriesContent (u : SensorIntake) (start : Nat) : List Byte :=
  let entries := (u.defects.drop start).take 15
  bigEndian 2 u.defects.length ++ [byteOf u.edits.length] ++ bigEndian 2 u.projected.length
    ++ [byteOf (surveyCode u.survey)] ++ surveyResultBytes u.lastSurvey
    ++ [byteOf entries.length] ++ entries.flatMap defectBytes

/-- The value in force of a parameter other than DUTY, coded as SET codes it; none for an unknown
identifier (TABLE 10-3, section 8.8). -/
def parameterValue (s : State) (identifier : Nat) : Option Nat :=
  match identifier with
  | 1 => some s.params.sourceWidth
  | 2 => some s.params.sourceHeight
  | 3 => some s.params.blackLevel
  | 4 => some s.params.darkThreshold
  | 5 => some s.params.exposure
  | 6 => some s.params.blurLimit
  | 7 => some s.params.triggerStep
  | 8 => some s.params.dwellTimeout
  | 9 => some s.params.dwellInterval
  | 10 => some s.params.parkTimeout
  | 11 => some s.params.parkInterval
  | 12 => some s.params.wakeDistance
  | 13 => some s.lamps.cycle
  | 15 => some s.params.brightnessTarget
  | 16 => some s.params.tuneBand
  | 17 => some s.params.referenceBeta
  | 18 => some s.params.tuneHoldoff
  | 19 => some (bit s.params.autoRetune)
  | 20 => some (bit (decide (s.params.ledFaultResponse = .keep)))
  | 21 => some (bit (decide (s.params.ledFaultReport = .statusOnly)))
  | 22 => some (bit (decide (s.params.thermalReport = .statusOnly)))
  | 23 => some (reportModeCode s.params.reportMode)
  | 24 => some s.params.eventMask.toNat
  | _ => none

/-- PARAMETER (item 8): identifier, segment for DUTY, value, and the pending value of LED CYCLE. -/
def parameterContent (identifier segment : Byte) (value : Nat) (pendingValue : Option Nat) : List Byte :=
  [identifier, segment] ++ bigEndian 4 value
    ++ [byteOf (bit pendingValue.isSome), byteOf (pendingValue.getD 0)]

/-- PARAMETER by its owner (R169 case h). -/
def parameterAnswer (s : State) (identifier segment : Byte) : Answer :=
  if identifier = 14 then
    match segmentOf segment with
    | none => .bare .badValue
    | some i =>
      readAnswer 8 (parameterContent identifier segment (s.lamps.segments.get i).staged none)
  else
    match parameterValue s identifier.toNat with
    | none => .bare .noSuchItem
    | some v =>
      readAnswer 8 (parameterContent identifier 0 v
        (if identifier = 13 then s.lamps.pendingCycle else none))

/-- ZONE STATS by its owner (R169 case d). -/
def zoneStatsAnswer (s : State) (segment : Byte) : Answer :=
  match segmentOf segment with
  | none => .bare .badValue
  | some i => readAnswer 4 (zoneStatsContent s i)

/-- PROBE RESULT (item 9). -/
def probeContent (g : LampProtection) : List Byte :=
  byteOf (probeStateCode g.probe) :: (g.results.map fun r => byteOf (probeResultCode r)).toList

/-- TEMPERATURE (item 10). -/
def temperatureContent (g : LampProtection) : List Byte :=
  [temperatureByte g.temperature, byteOf (thermalCode g.thermal)]

def ownReadIdentity (s : State) : Answer × State := (readAnswer 1 (identityContent s), s)
def ownReadStatus (s : State) : Answer × State := (readAnswer 2 (statusContent s s.link.latches), s)
def ownReadCounters (s : State) : Answer × State := (readAnswer 3 (countersContent s), s)
def ownReadZoneStats (segment : Byte) (s : State) : Answer × State := (zoneStatsAnswer s segment, s)
def ownReadBankInfo (s : State) : Answer × State := (readAnswer 5 (bankInfoContent s), s)
def ownReadTableVerdict (s : State) : Answer × State :=
  (readAnswer 6 (verdictContent s.views.verdict), s)
def ownReadDefectEntries (start : BitVec 16) (s : State) : Answer × State :=
  (readAnswer 7 (defectEntriesContent s.intake start.toNat), s)
def ownReadParameter (identifier segment : Byte) (s : State) : Answer × State :=
  (parameterAnswer s identifier segment, s)
def ownReadProbeResult (s : State) : Answer × State := (readAnswer 9 (probeContent s.guard), s)
def ownReadTemperature (s : State) : Answer × State :=
  (readAnswer 10 (temperatureContent s.guard), s)

/-- READ IDENTITY (R169 case a). -/
def execReadIdentity (tag : Byte) (s : State) : Host.Outcome State Fault Refusal :=
  .next (consume tag 1 ownReadIdentity s)

/-- READ STATUS (R169 case b): the event latches are read and not cleared. -/
def execReadStatus (tag : Byte) (s : State) : Host.Outcome State Fault Refusal :=
  .next (consume tag 1 ownReadStatus s)

/-- READ COUNTERS (R169 case c, R171). -/
def execReadCounters (tag : Byte) (s : State) : Host.Outcome State Fault Refusal :=
  .next (consume tag 1 ownReadCounters s)

/-- READ ZONE STATS (R169 case d). -/
def execReadZoneStats (tag segment : Byte) (s : State) : Host.Outcome State Fault Refusal :=
  .next (consume tag 1 (ownReadZoneStats segment) s)

/-- READ BANK INFO (R56). -/
def execReadBankInfo (tag : Byte) (s : State) : Host.Outcome State Fault Refusal :=
  .next (consume tag 1 ownReadBankInfo s)

/-- READ TABLE VERDICT (R52). -/
def execReadTableVerdict (tag : Byte) (s : State) : Host.Outcome State Fault Refusal :=
  .next (consume tag 1 ownReadTableVerdict s)

/-- READ DEFECT ENTRIES (R78). -/
def execReadDefectEntries (tag : Byte) (start : BitVec 16) (s : State) :
    Host.Outcome State Fault Refusal :=
  .next (consume tag 1 (ownReadDefectEntries start) s)

/-- READ PARAMETER (R169 case h). -/
def execReadParameter (tag identifier segment : Byte) (s : State) :
    Host.Outcome State Fault Refusal :=
  .next (consume tag 1 (ownReadParameter identifier segment) s)

/-- READ PROBE RESULT (R169 case i). -/
def execReadProbeResult (tag : Byte) (s : State) : Host.Outcome State Fault Refusal :=
  .next (consume tag 1 ownReadProbeResult s)

/-- READ TEMPERATURE (R169 case j). -/
def execReadTemperature (tag : Byte) (s : State) : Host.Outcome State Fault Refusal :=
  .next (consume tag 1 ownReadTemperature s)

/-! ## Parameters of the Illumination Unit and the Link Unit (R170) -/

/-- SET of BRIGHTNESS TARGET by its owner (R170). -/
def ownSetBrightnessTarget (value : Word) (s : State) : Answer × State :=
  setNumber 15 value 16 1008 1 fun n => s.setParams { s.params with brightnessTarget := n }

/-- SET of TUNE BAND by its owner (R170). -/
def ownSetTuneBand (value : Word) (s : State) : Answer × State :=
  setNumber 16 value 16 512 1 fun n => s.setParams { s.params with tuneBand := n }

/-- SET of REFERENCE BETA by its owner (R125). -/
def ownSetReferenceBeta (value : Word) (s : State) : Answer × State :=
  setNumber 17 value 1 256 1 fun n => s.setParams { s.params with referenceBeta := n }

/-- SET of TUNE HOLDOFF by its owner (R122). -/
def ownSetTuneHoldoff (value : Word) (s : State) : Answer × State :=
  setNumber 18 value 0 255 1 fun n => s.setParams { s.params with tuneHoldoff := n }

/-- SET of AUTO RETUNE by its owner (R126). -/
def ownSetAutoRetune (value : Word) (s : State) : Answer × State :=
  setChoice 19 value autoRetuneOf (fun x => s.setParams { s.params with autoRetune := x }) s

/-- SET of REPORT MODE by its owner (R174). -/
def ownSetReportMode (value : Word) (s : State) : Answer × State :=
  setChoice 23 value reportModeOf (fun x => s.setParams { s.params with reportMode := x }) s

/-- SET of EVENT MASK by its owner: bits 14..0 are the marks, the rest is ignored (R170, R174). -/
def ownSetEventMask (value : Word) (s : State) : Answer × State :=
  ({ code := .done, content := setReplyContent 24 0 (value.setWidth 15).toNat },
    s.setParams { s.params with eventMask := value.setWidth 15 })

/-- SET of BRIGHTNESS TARGET (R170). -/
def execSetBrightnessTarget (tag : Byte) (value : Word) (s : State) :
    Host.Outcome State Fault Refusal :=
  .next (consume tag 2 (ownSetBrightnessTarget value) s)

/-- SET of TUNE BAND (R170). -/
def execSetTuneBand (tag : Byte) (value : Word) (s : State) : Host.Outcome State Fault Refusal :=
  .next (consume tag 2 (ownSetTuneBand value) s)

/-- SET of REFERENCE BETA (R125). -/
def execSetReferenceBeta (tag : Byte) (value : Word) (s : State) :
    Host.Outcome State Fault Refusal :=
  .next (consume tag 2 (ownSetReferenceBeta value) s)

/-- SET of TUNE HOLDOFF (R122). -/
def execSetTuneHoldoff (tag : Byte) (value : Word) (s : State) : Host.Outcome State Fault Refusal :=
  .next (consume tag 2 (ownSetTuneHoldoff value) s)

/-- SET of AUTO RETUNE (R126). -/
def execSetAutoRetune (tag : Byte) (value : Word) (s : State) : Host.Outcome State Fault Refusal :=
  .next (consume tag 2 (ownSetAutoRetune value) s)

/-- SET of REPORT MODE (R174). -/
def execSetReportMode (tag : Byte) (value : Word) (s : State) : Host.Outcome State Fault Refusal :=
  .next (consume tag 2 (ownSetReportMode value) s)

/-- SET of EVENT MASK (R174). -/
def execSetEventMask (tag : Byte) (value : Word) (s : State) : Host.Outcome State Fault Refusal :=
  .next (consume tag 2 (ownSetEventMask value) s)

/-! ## ACK RESET (R175) -/

/-- ACK RESET by its owner (R175). -/
def ownAckReset (s : State) : Answer × State :=
  (.bare .done, s.setLink { s.link with resetNotice := false })

/-- ACK RESET (R175). -/
def execAckReset (tag : Byte) (s : State) : Host.Outcome State Fault Refusal :=
  .next (consume tag 18 ownAckReset s)

/-! ## RESTART (R176, TABLE 10-7) -/

/-- The Warp Engine after RESTART (R35). That a RESTART in IDLE clears the accumulators too is the model's
choice (assumption 30). -/
def WarpEngine.restarted (e : WarpEngine) : WarpEngine :=
  { e with run := none, nextNumber := 0, accumulators := Eight.all ZoneAccumulator.zero
           reserved := 0, resetMark := true }

/-- The intake state after RESTART (R84 cases a and b). -/
def Intake.restarted (i : Intake) : Intake :=
  match i with
  | .waiting => .waiting
  | .filling _ => .passing .abandoned
  | .passing (.dropped _) => .passing (.dropped none)
  | .passing .unsolicited => .passing .unsolicited
  | .passing .abandoned => .passing .abandoned

/-- Sensor Intake after RESTART (R84). -/
def SensorIntake.restarted (u : SensorIntake) : SensorIntake :=
  { u with intake := u.intake.restarted, edits := [], survey := .idle }

/-- A bank after RESTART (R57 cases a and b). -/
def Bank.restarted (b : Bank) : Bank :=
  if b.state = .opened ∨ b.state = .checking then Bank.emptied else b

/-- The View Bank Store after RESTART (R57). -/
def ViewBankStore.restarted (v : ViewBankStore) : ViewBankStore :=
  { v with bank0 := v.bank0.restarted, bank1 := v.bank1.restarted, pendingView := none }

/-- The Position and Trigger Unit after RESTART (R108). -/
def PositionUnit.restarted (u : PositionUnit) : PositionUnit :=
  { u with sequencer := .ready, current := none, outstanding := none, pendingTrigger := none
           triggerLine := false }

/-- The Illumination Unit after RESTART (R129). -/
def IlluminationUnit.restarted (u : IlluminationUnit) : IlluminationUnit :=
  { u with segments := u.segments.map fun d => { d.abortTune with reseed := true } }

/-- Lamp Protection after RESTART (R145). -/
def LampProtection.restarted (g : LampProtection) : LampProtection :=
  { g.abortProbe.windowAbandoned with probe := .idle }

/-- The latches that waiting STATUS cells carry (R176 case a). -/
def waitingLatches (cells : List Cell) : BitVec 15 :=
  cells.foldl (fun acc c => if isStatus c then acc ||| carriedLatches c else acc) 0

/-- The Link Unit after RESTART, before its REPLY (R160, R176). -/
def LinkUnit.restarted (l : LinkUnit) (tuneAborted : Bool) : LinkUnit :=
  { l with
    ownVideo := [], management := [], turn := .ownVideo, statusOwed := false, resetNotice := true
    latches := l.latches ||| waitingLatches l.management
      ||| eventMarks (.resetNotice :: eventIf tuneAborted .tuneDone) }

/-- Every block after RESTART (R176). -/
def State.restarted (s : State) : State :=
  (((((((s.setEngine s.engine.restarted).setIntake s.intake.restarted).setSlots
      SlotPool.reset).setViews s.views.restarted).setPosition s.position.restarted).setLamps
    s.lamps.restarted).setGuard s.guard.restarted).setLink (s.link.restarted s.lamps.anyTuning)

/-- RESTART executed, whether or not a place was free, and answered DONE (R167, R176 case c). -/
def State.executeRestart (s : State) (tag : Byte) : State :=
  s.restarted.placeReply tag 19 (.bare .done)

/-- RESTART (R176). -/
def execRestart (tag : Byte) (s : State) : Host.Outcome State Fault Refusal :=
  .next (s.executeRestart tag)

/-! ## A COMMAND cell (R152, R167) -/

/-- The owner of a numbered command other than RESTART: its command number and what it does (TABLE
10-1). -/
def ownerOf (i : Instr) : Option (Byte × (State → Answer × State)) :=
  match i with
  | .readIdentity _ => some (1, ownReadIdentity)
  | .readStatus _ => some (1, ownReadStatus)
  | .readCounters _ => some (1, ownReadCounters)
  | .readZoneStats _ segment => some (1, ownReadZoneStats segment)
  | .readBankInfo _ => some (1, ownReadBankInfo)
  | .readTableVerdict _ => some (1, ownReadTableVerdict)
  | .readDefectEntries _ start => some (1, ownReadDefectEntries start)
  | .readParameter _ identifier segment => some (1, ownReadParameter identifier segment)
  | .readProbeResult _ => some (1, ownReadProbeResult)
  | .readTemperature _ => some (1, ownReadTemperature)
  | .setSourceWidth _ v => some (2, ownSetSourceWidth v)
  | .setSourceHeight _ v => some (2, ownSetSourceHeight v)
  | .setBlackLevel _ v => some (2, ownSetBlackLevel v)
  | .setDarkThreshold _ v => some (2, ownSetDarkThreshold v)
  | .setExposure _ v => some (2, ownSetExposure v)
  | .setBlurLimit _ v => some (2, ownSetBlurLimit v)
  | .setTriggerStep _ v => some (2, ownSetTriggerStep v)
  | .setDwellTimeout _ v => some (2, ownSetDwellTimeout v)
  | .setDwellInterval _ v => some (2, ownSetDwellInterval v)
  | .setParkTimeout _ v => some (2, ownSetParkTimeout v)
  | .setParkInterval _ v => some (2, ownSetParkInterval v)
  | .setWakeDistance _ v => some (2, ownSetWakeDistance v)
  | .setLedCycle _ v => some (2, ownSetLedCycle v)
  | .setDuty _ segment v => some (2, ownSetDuty segment v)
  | .setBrightnessTarget _ v => some (2, ownSetBrightnessTarget v)
  | .setTuneBand _ v => some (2, ownSetTuneBand v)
  | .setReferenceBeta _ v => some (2, ownSetReferenceBeta v)
  | .setTuneHoldoff _ v => some (2, ownSetTuneHoldoff v)
  | .setAutoRetune _ v => some (2, ownSetAutoRetune v)
  | .setLedFaultResponse _ v => some (2, ownSetLedFaultResponse v)
  | .setLedFaultReport _ v => some (2, ownSetLedFaultReport v)
  | .setThermalReport _ v => some (2, ownSetThermalReport v)
  | .setReportMode _ v => some (2, ownSetReportMode v)
  | .setEventMask _ v => some (2, ownSetEventMask v)
  | .tableOpen _ bank width height fill label =>
    some (3, ownTableOpen bank width height fill label)
  | .tableData _ used bank part number entries =>
    some (4, ownTableData used bank part number entries)
  | .tableClose _ bank => some (5, ownTableClose bank)
  | .commitView _ bank => some (6, ownCommitView bank)
  | .rawView _ => some (7, ownRawView)
  | .defectAdd _ row column method => some (8, ownDefectAdd row column method)
  | .defectRemove _ row column => some (9, ownDefectRemove row column)
  | .defectClear _ originFilter => some (10, ownDefectClear originFilter)
  | .darkSurvey _ => some (11, ownDarkSurvey)
  | .tune _ mask => some (12, ownTune mask)
  | .reseed _ mask => some (13, ownReseed mask)
  | .probe _ => some (14, ownProbe)
  | .snap _ => some (15, ownSnap)
  | .zeroOdometer _ => some (16, ownZeroOdometer)
  | .clearFaults _ => some (17, ownClearFaults)
  | .ackReset _ => some (18, ownAckReset)
  | .restart _ | .powerOnReset .. | .lineReset .. | .commandCell .. | .rollCall ..
  | .upwardCellReceipt .. | .hold .. | .go .. | .portUp .. | .portLockLoss ..
  | .portSymbolTimeout .. | .tetherArbiterChoice | .chainOutboundSend | .frameBegin | .line ..
  | .frameEnd | .warpFrameStart | .itemProduction | .warpFrameEnd | .odometerCount ..
  | .odoGlitch | .speedWindow | .dwellTimer | .parkTimer | .timeTrigger | .exposureEnd
  | .sensorTimeout | .readoutLimit | .senseWindowClose .. | .overcurrent .. | .thermalSample ..
  | .probeCompletion .. | .tableCheckCompletion .. | .cellError .. => none

/-- The answer decode itself gives a command; the replies of the edit commands carry their sizes under
every code (R73, R167, TABLE 8-8). -/
def decodeAnswer (number : Byte) (code : ReplyCode) (s : State) : Answer × State :=
  if number = 8 ∨ number = 9 ∨ number = 10 then editAnswer code s else (.bare code, s)

/-- A consumed COMMAND executed (R167). -/
def State.executeCell (s : State) (c : Cell) : State :=
  match decodeCommand c.tag c.used c.payload with
  | .run (.restart tag) => s.executeRestart tag
  | .run i =>
    match ownerOf i with
    | some (number, owner) => consume c.tag number owner s
    | none => s
  | .answer number code => consume c.tag number (decodeAnswer number code) s

/-- A COMMAND accepted on the tether port, routed by its destination and the position held (R152). -/
def State.routeCommand (s : State) (c : Cell) : State :=
  if c.dest = 15 then (s.executeCell c).forwardCommand c
  else if s.link.position = some c.dest.toNat then s.executeCell c
  else s.forwardCommand c

/-- A COMMAND cell arriving on the tether port (R149, R152); nothing is received while it is DOWN. -/
def State.receiveCommand (s : State) (c : Cell) : State :=
  if s.link.tether.up then
    if acceptable .tether c then s.routeCommand c else s.cellError .tether
  else s

/-- COMMAND CELL (R152). -/
def execCommandCell (source dest : BitVec 4) (tag used : Byte) (payload : List Byte) (s : State) :
    Host.Outcome State Fault Refusal :=
  .next (s.receiveCommand { kind := .command, source, dest, tag, used, payload })

/-- What is done with a cell accepted on a port, by its kind (R152, R156, R162). -/
def State.acceptCell (s : State) (p : PortId) (c : Cell) : State :=
  match p with
  | .chain => s.setLink (s.link.forwardUp c)
  | .tether => if c.kind = .command then s.routeCommand c else s.takeRollCall c

/-- CELL ERROR: a complete cell as received on a port, judged by R149. One that R149 does not discard
is no error and is accepted (assumption 16). -/
def execCellError (p : PortId) (bytes : List Byte) (s : State) : Host.Outcome State Fault Refusal :=
  .next (
    if (s.link.port p).up then
      match acceptedCell p bytes with
      | none => s.cellError p
      | some c => s.acceptCell p c
    else s)

end Sys2Proof.Machine
end

