-- ==== Sys2Proof/Machine/Reset.lean ====
section
/-! DEFINITION. Power-on reset and line reset (R177 and the reset rules of every chapter). -/

namespace Sys2Proof.Machine

/-- The block right after a reset that finds the odometer phases at (a, b) and the die at a
temperature: every block at its reset values, the first thermal sample taken and judged (R107, R144,
R177). The commands waiting and the index of free choices are the model's own and stay. -/
def State.afterReset (s : State) (a b : Bool) (temperature : Int) : State :=
  ({ State.reset with
    pending := s.pending
    freeIndex := s.freeIndex
    position := { PositionUnit.reset with phaseA := a, phaseB := b } } : State).sampled temperature

/-- POWER-ON RESET (R177). -/
def execPowerOnReset (a b : Bool) (temperature : Int) (s : State) :
    Host.Outcome State Fault Refusal :=
  .next (s.afterReset a b temperature)

/-- LINE RESET: the same effect on all state (R177). -/
def execLineReset (a b : Bool) (temperature : Int) (s : State) :
    Host.Outcome State Fault Refusal :=
  .next (s.afterReset a b temperature)

end Sys2Proof.Machine
end

