-- ==== Sys2Proof/Machine/Dispatch.lean ====
section
/-! DEFINITION. The dispatch: one arm for each command or event of the block. -/

namespace Sys2Proof.Machine

/-- The effect of a command or event on everything but the queue of commands waiting. -/
def exec (i : Instr) (s : State) : Host.Outcome State Fault Refusal :=
  match i with
  | .powerOnReset a b temperature => Sys2Proof.Machine.execPowerOnReset a b temperature s
  | .lineReset a b temperature => Sys2Proof.Machine.execLineReset a b temperature s
  | .commandCell source dest tag used payload => Sys2Proof.Machine.execCommandCell source dest tag used payload s
  | .readIdentity tag => Sys2Proof.Machine.execReadIdentity tag s
  | .readStatus tag => Sys2Proof.Machine.execReadStatus tag s
  | .readCounters tag => Sys2Proof.Machine.execReadCounters tag s
  | .readZoneStats tag segment => Sys2Proof.Machine.execReadZoneStats tag segment s
  | .readBankInfo tag => Sys2Proof.Machine.execReadBankInfo tag s
  | .readTableVerdict tag => Sys2Proof.Machine.execReadTableVerdict tag s
  | .readDefectEntries tag start => Sys2Proof.Machine.execReadDefectEntries tag start s
  | .readParameter tag identifier segment => Sys2Proof.Machine.execReadParameter tag identifier segment s
  | .readProbeResult tag => Sys2Proof.Machine.execReadProbeResult tag s
  | .readTemperature tag => Sys2Proof.Machine.execReadTemperature tag s
  | .setSourceWidth tag value => Sys2Proof.Machine.execSetSourceWidth tag value s
  | .setSourceHeight tag value => Sys2Proof.Machine.execSetSourceHeight tag value s
  | .setBlackLevel tag value => Sys2Proof.Machine.execSetBlackLevel tag value s
  | .setDarkThreshold tag value => Sys2Proof.Machine.execSetDarkThreshold tag value s
  | .setExposure tag value => Sys2Proof.Machine.execSetExposure tag value s
  | .setBlurLimit tag value => Sys2Proof.Machine.execSetBlurLimit tag value s
  | .setTriggerStep tag value => Sys2Proof.Machine.execSetTriggerStep tag value s
  | .setDwellTimeout tag value => Sys2Proof.Machine.execSetDwellTimeout tag value s
  | .setDwellInterval tag value => Sys2Proof.Machine.execSetDwellInterval tag value s
  | .setParkTimeout tag value => Sys2Proof.Machine.execSetParkTimeout tag value s
  | .setParkInterval tag value => Sys2Proof.Machine.execSetParkInterval tag value s
  | .setWakeDistance tag value => Sys2Proof.Machine.execSetWakeDistance tag value s
  | .setLedCycle tag value => Sys2Proof.Machine.execSetLedCycle tag value s
  | .setDuty tag segment value => Sys2Proof.Machine.execSetDuty tag segment value s
  | .setBrightnessTarget tag value => Sys2Proof.Machine.execSetBrightnessTarget tag value s
  | .setTuneBand tag value => Sys2Proof.Machine.execSetTuneBand tag value s
  | .setReferenceBeta tag value => Sys2Proof.Machine.execSetReferenceBeta tag value s
  | .setTuneHoldoff tag value => Sys2Proof.Machine.execSetTuneHoldoff tag value s
  | .setAutoRetune tag value => Sys2Proof.Machine.execSetAutoRetune tag value s
  | .setLedFaultResponse tag value => Sys2Proof.Machine.execSetLedFaultResponse tag value s
  | .setLedFaultReport tag value => Sys2Proof.Machine.execSetLedFaultReport tag value s
  | .setThermalReport tag value => Sys2Proof.Machine.execSetThermalReport tag value s
  | .setReportMode tag value => Sys2Proof.Machine.execSetReportMode tag value s
  | .setEventMask tag value => Sys2Proof.Machine.execSetEventMask tag value s
  | .tableOpen tag bank width height fill label => Sys2Proof.Machine.execTableOpen tag bank width height fill label s
  | .tableData tag used bank part number entries => Sys2Proof.Machine.execTableData tag used bank part number entries s
  | .tableClose tag bank => Sys2Proof.Machine.execTableClose tag bank s
  | .commitView tag bank => Sys2Proof.Machine.execCommitView tag bank s
  | .rawView tag => Sys2Proof.Machine.execRawView tag s
  | .defectAdd tag row column method => Sys2Proof.Machine.execDefectAdd tag row column method s
  | .defectRemove tag row column => Sys2Proof.Machine.execDefectRemove tag row column s
  | .defectClear tag originFilter => Sys2Proof.Machine.execDefectClear tag originFilter s
  | .darkSurvey tag => Sys2Proof.Machine.execDarkSurvey tag s
  | .tune tag mask => Sys2Proof.Machine.execTune tag mask s
  | .reseed tag mask => Sys2Proof.Machine.execReseed tag mask s
  | .probe tag => Sys2Proof.Machine.execProbe tag s
  | .snap tag => Sys2Proof.Machine.execSnap tag s
  | .zeroOdometer tag => Sys2Proof.Machine.execZeroOdometer tag s
  | .clearFaults tag => Sys2Proof.Machine.execClearFaults tag s
  | .ackReset tag => Sys2Proof.Machine.execAckReset tag s
  | .restart tag => Sys2Proof.Machine.execRestart tag s
  | .rollCall source dest tag used payload => Sys2Proof.Machine.execRollCall source dest tag used payload s
  | .upwardCellReceipt cell => Sys2Proof.Machine.execUpwardCellReceipt cell s
  | .hold port => Sys2Proof.Machine.execHold port s
  | .go port => Sys2Proof.Machine.execGo port s
  | .portUp port => Sys2Proof.Machine.execPortUp port s
  | .portLockLoss port midCell => Sys2Proof.Machine.execPortLockLoss port midCell s
  | .portSymbolTimeout port midCell => Sys2Proof.Machine.execPortSymbolTimeout port midCell s
  | .tetherArbiterChoice => Sys2Proof.Machine.execTetherArbiterChoice s
  | .chainOutboundSend => Sys2Proof.Machine.execChainOutboundSend s
  | .frameBegin => Sys2Proof.Machine.execFrameBegin s
  | .line pixels => Sys2Proof.Machine.execLine pixels s
  | .frameEnd => Sys2Proof.Machine.execFrameEnd s
  | .warpFrameStart => Sys2Proof.Machine.execWarpFrameStart s
  | .itemProduction => Sys2Proof.Machine.execItemProduction s
  | .warpFrameEnd => Sys2Proof.Machine.execWarpFrameEnd s
  | .odometerCount phase => Sys2Proof.Machine.execOdometerCount phase s
  | .odoGlitch => Sys2Proof.Machine.execOdoGlitch s
  | .speedWindow => Sys2Proof.Machine.execSpeedWindow s
  | .dwellTimer => Sys2Proof.Machine.execDwellTimer s
  | .parkTimer => Sys2Proof.Machine.execParkTimer s
  | .timeTrigger => Sys2Proof.Machine.execTimeTrigger s
  | .exposureEnd => Sys2Proof.Machine.execExposureEnd s
  | .sensorTimeout => Sys2Proof.Machine.execSensorTimeout s
  | .readoutLimit => Sys2Proof.Machine.execReadoutLimit s
  | .senseWindowClose segment peakCurrent voltage => Sys2Proof.Machine.execSenseWindowClose segment peakCurrent voltage s
  | .overcurrent segment current => Sys2Proof.Machine.execOvercurrent segment current s
  | .thermalSample temperature => Sys2Proof.Machine.execThermalSample temperature s
  | .probeCompletion strings => Sys2Proof.Machine.execProbeCompletion strings s
  | .tableCheckCompletion bank => Sys2Proof.Machine.execTableCheckCompletion bank s
  | .cellError port bytes => Sys2Proof.Machine.execCellError port bytes s

end Sys2Proof.Machine
end

