-- ==== Sys2Proof/Safety.lean ====
section
/-! DEFINITION. What a safe run keeps: the invariants of the block, in the terms of its state, and the
words statements about commands use: a free place for a REPLY, and an event reported. -/

namespace Sys2Proof.Machine

/-! ## Words of the statements -/

/-- A place of the management queue is free and none is held (R168): what lies between steps. -/
def State.PlaceFree (s : State) : Prop :=
  s.link.management.length < 32 ∧ s.link.replyPlace = false

/-- Two states of the Link Unit differ at most in the management queue, the event latches, STATUS OWED
and the place held for a REPLY: what latching an event or answering a command may touch. -/
def LinkUnit.KeptBy (l m : LinkUnit) : Prop :=
  m.tether = l.tether ∧ m.chain = l.chain ∧ m.position = l.position ∧ m.ownVideo = l.ownVideo
    ∧ m.upForward = l.upForward ∧ m.downForward = l.downForward ∧ m.turn = l.turn
    ∧ m.counters = l.counters ∧ m.resetNotice = l.resetNotice

/-- An event is reported: its latch is set, or a STATUS cell that waits carries it (R172, R173). -/
def State.Reported (s : State) (k : EventKind) : Prop :=
  s.latched k = true
    ∨ ∃ c ∈ s.link.management, c.kind = .status ∧ (carriedLatches c).getLsbD k.index = true

/-- The last cell of the management queue is the REPLY to a command (R167, TABLE 8-4). -/
def State.Replied (s : State) (tag number : Byte) (a : Answer) : Prop :=
  s.link.replyPlace = false
    ∧ ∃ before, s.link.management = before ++ [replyCell s tag number a]

/-- `t` is `s` with an exposure of a cause and tag started (R101): the sequencer EXPOSING on a new
current exposure, its record outstanding, the trigger line driven, the sequence number and the time
reference moved on, the lamps as the start of an exposure makes them (R114), the sense progress of every
segment 0 and none turned off (R109, R130), a running probe aborted in all eight results (R143), and the
aborts of a probe and of tunes by a change of cycle length (R111) reported. -/
def State.StartedExposure (s t : State) (cause : Cause) (tag : Int) : Prop :=
  t.position = { s.position with
      sequencer := .exposing, triggerLine := true, timeReference := some s.now
      nextSequence := s.position.nextSequence + 1
      current := some
        { sequence := s.position.nextSequence, recordState := .outstanding, start := s.now
          eEff := s.eEff, endedAt := none, begunAt := none, slot := none }
      outstanding := some
        { sequence := s.position.nextSequence, cause, tag, position := s.position.p
          mode := s.position.mode, eEff := s.eEff
          gx := min 1024 (s.params.exposure * 256 / s.eEff)
          applied := t.lamps.segments.map SegmentDrive.applied
          markers := s.lamps.markers (decide (cause = .survey)), dark := decide (cause = .survey)
          derated := decide (s.guard.thermal = .derate)
          shutdown := decide (s.guard.thermal = .shutdown), ledFault := false, skippedBefore := 0
          repaired := 0, unrepaired := 0, short := false } }
    ∧ t.lamps = s.exposedLamps cause
    ∧ t.guard = { s.guard with
        probe := if s.guard.probe = .probing then .idle else s.guard.probe
        results := if s.guard.probe = .probing then Eight.all .aborted else s.guard.results
        segments := s.guard.segments.map fun x => { x with progress := 0, turnedOff := false } }
    ∧ s.link.KeptBy t.link
    ∧ (s.guard.probe = .probing → t.Reported .probeDone)
    ∧ (s.lamps.cycleChanges = true → s.lamps.anyTuning = true → t.Reported .tuneDone)

/-- The tag, command number and owner of a numbered command other than RESTART (TABLE 10-1). -/
def numbered (i : Instr) : Option (Byte × Byte × (State → Answer × State)) :=
  match ownerOf i, commandContent i with
  | some (number, owner), some (tag, _) => some (tag, number, owner)
  | none, _ => none
  | some _, none => none

/-! ## Invariants -/

/-- The four queues within their capacities, reserved places counted as occupied, and no place held
for a REPLY between steps (R151, TABLE 8-1, R168). -/
def State.QueuesBounded (s : State) : Prop :=
  s.link.ownVideo.length + s.engine.reserved ≤ 192 ∧ s.link.management.length ≤ 32
    ∧ s.link.upForward.length ≤ 128 ∧ s.link.downForward.length ≤ 16
    ∧ s.link.replyPlace = false

/-- One defect entry stands before another in (row, column) order (R69). -/
def DefectEntry.Before (x y : DefectEntry) : Prop :=
  x.row < y.row ∨ (x.row = y.row ∧ x.column < y.column)

/-- The defect list in strictly ascending order, the edit queue within 16, and the peak size within
512 (R69, R73, R74). -/
def State.DefectsSound (s : State) : Prop :=
  s.intake.defects.Pairwise DefectEntry.Before ∧ s.intake.edits.length ≤ 16
    ∧ peakSize s.intake.defects s.intake.edits ≤ 512

/-- A COLLECTING survey belongs to the frame that fills a slot; its candidates stand in rows received,
in ascending order, none of them listed, at most 512 (R79, R80). -/
def State.SurveySound (s : State) : Prop :=
  ∀ threshold candidates overflow, s.intake.survey = .collecting threshold candidates overflow →
    (∃ i, s.intake.intake = .filling i ∧ ∀ c ∈ candidates, c.1 < (s.slots.get i).rows.length)
      ∧ (candidates.Pairwise fun a b => a.1 < b.1 ∨ (a.1 = b.1 ∧ a.2 < b.2))
      ∧ (∀ c ∈ candidates, ∀ e ∈ s.intake.defects, ¬(e.row = c.1 ∧ e.column = c.2))
      ∧ candidates.length ≤ 512

/-- A header in range (R3). -/
def Header.InRange (h : Header) : Prop :=
  128 ≤ h.wo ∧ h.wo ≤ 1024 ∧ h.wo % 64 = 0 ∧ 128 ≤ h.ho ∧ h.ho ≤ 1024 ∧ h.ho % 64 = 0 ∧ h.fill ≤ 1023

/-- A bank that holds a header exactly when it is not EMPTY, in range, and a check raster exactly while
CHECKING (R38, R47). -/
def Bank.Sound (b : Bank) : Prop :=
  (b.state = .empty ↔ b.header = none) ∧ (∀ h, b.header = some h → h.InRange)
    ∧ (b.state = .checking ↔ b.checkRaster.isSome)

/-- At most one bank ACTIVE, and a pending commit names a VALID bank (R39, R40). -/
def State.BanksSound (s : State) : Prop :=
  s.views.bank0.Sound ∧ s.views.bank1.Sound
    ∧ ¬(s.views.bank0.state = .active ∧ s.views.bank1.state = .active)
    ∧ ∀ b, s.views.pendingView = some (.bank b) → (s.views.get b).state = .valid

/-- The slots as Sensor Intake and the Warp Engine hold them: the FILLING one is the intake's, the
WARPING one the engine's, the READY ones stand once each in the ready order, and a slot holds a frame
record exactly when it is not FREE (R59, R60, R37). -/
def State.SlotsSound (s : State) : Prop :=
  (∀ i, (s.slots.get i).state = .filling ↔ s.intake.intake = .filling i)
    ∧ (∀ i, (s.slots.get i).state = .warping ↔ ∃ r, s.engine.run = some r ∧ r.slot = i)
    ∧ (∀ i, (s.slots.get i).state = .ready ↔ i ∈ s.slots.readyOrder)
    ∧ s.slots.readyOrder.Nodup
    ∧ (∀ i, (s.slots.get i).state = .free ↔ (s.slots.get i).record = none)

/-- The trigger line is driven exactly while EXPOSING, a sequencer that is not READY waits on a current
exposure, and a READY one leaves neither an ARMED survey nor a pending trigger waiting (TABLE 5-6, R79,
R99, R101, R102). -/
def State.SequencerSound (s : State) : Prop :=
  (s.position.triggerLine = true ↔ s.position.sequencer = .exposing)
    ∧ (s.position.sequencer ≠ .ready → s.position.current.isSome = true)
    ∧ (s.position.sequencer = .ready →
      s.intake.survey ≠ .armed ∧ s.position.pendingTrigger = none)

/-- The record of a segment within a cycle length `n`: duties in 0..2^n, a trial duty that is the
staged one, in 1..2^n - 1, and reached by the halving steps of its trial (R112, R114, R120). -/
def SegmentDrive.Sound (d : SegmentDrive) (n : Nat) : Prop :=
  d.staged ≤ 2 ^ n ∧ d.applied ≤ 2 ^ n
    ∧ match d.tune with
      | .steady => True
      | .holdoff remaining => 1 ≤ remaining ∧ remaining ≤ 255
      | .tuning trial duty _ preTune =>
        1 ≤ trial ∧ trial ≤ n ∧ d.staged = duty ∧ 1 ≤ duty ∧ duty ≤ 2 ^ n - 1
          ∧ duty % 2 ^ (n + 1 - trial) = 2 ^ (n - trial) ∧ preTune ≤ 2 ^ n

/-- The cycle length, the pending one and every segment's duties in range (TABLE 6-1). -/
def State.DutiesSound (s : State) : Prop :=
  8 ≤ s.lamps.cycle ∧ s.lamps.cycle ≤ 11
    ∧ (∀ n, s.lamps.pendingCycle = some n → 8 ≤ n ∧ n ≤ 11)
    ∧ ∀ i, (s.lamps.segments.get i).Sound s.lamps.cycle

/-- The numeric parameters within the ranges and steps of TABLE 10-3. -/
def Parameters.InRange (p : Parameters) : Prop :=
  (256 ≤ p.sourceWidth ∧ p.sourceWidth ≤ 1280 ∧ p.sourceWidth % 16 = 0)
    ∧ (256 ≤ p.sourceHeight ∧ p.sourceHeight ≤ 1024 ∧ p.sourceHeight % 16 = 0)
    ∧ p.blackLevel ≤ 1023 ∧ (1 ≤ p.darkThreshold ∧ p.darkThreshold ≤ 4095)
    ∧ (50 ≤ p.exposure ∧ p.exposure ≤ 20000) ∧ p.blurLimit ≤ 64
    ∧ (1 ≤ p.triggerStep ∧ p.triggerStep ≤ 65535) ∧ p.dwellTimeout ≤ 600
    ∧ (20 ≤ p.dwellInterval ∧ p.dwellInterval ≤ 10000) ∧ p.parkTimeout ≤ 3600
    ∧ (1 ≤ p.parkInterval ∧ p.parkInterval ≤ 600) ∧ (1 ≤ p.wakeDistance ∧ p.wakeDistance ≤ 255)
    ∧ (16 ≤ p.brightnessTarget ∧ p.brightnessTarget ≤ 1008) ∧ (16 ≤ p.tuneBand ∧ p.tuneBand ≤ 512)
    ∧ (1 ≤ p.referenceBeta ∧ p.referenceBeta ≤ 256) ∧ p.tuneHoldoff ≤ 255

/-- What Lamp Protection holds within TABLE 7-1, and the ALERT line as R139 gives it. -/
def State.GuardSound (s : State) : Prop :=
  (-40 ≤ s.guard.temperature ∧ s.guard.temperature ≤ 150)
    ∧ (∀ i, (s.guard.segments.get i).openCount ≤ 1 ∧ (s.guard.segments.get i).progress ≤ 960)
    ∧ (s.guard.alert = true ↔
      s.guard.thermal = .shutdown ∨ s.guard.shut = true
        ∨ (s.guard.warn = true ∧ s.params.thermalReport = .alert)
        ∨ (∃ i, (s.guard.segments.get i).faulted = true) ∧ s.params.ledFaultReport = .alert)

/-- The counters at most 4294967295 (R171), the head position a number 1..4 or UNASSIGNED (R161), P
within its limits (R85), and the skip tally at most 255 (TABLE 5-1). -/
def State.RangesSound (s : State) : Prop :=
  (∀ n ∈ s.link.counters.toList, n ≤ 4294967295)
    ∧ (∀ p, s.link.position = some p → 1 ≤ p ∧ p ≤ 4)
    ∧ (-2147483647 ≤ s.position.p ∧ s.position.p ≤ 2147483647)
    ∧ s.position.skipTally ≤ 255

end Sys2Proof.Machine
end

