-- ==== Sys2Proof/Certificates/Slice0/Obligations.lean ====
section
/-! DEFINITION. The statements about the block, for the provers. Each says one rule or a few of the
manual; a statement that rests on a choice of the model says so and names the log entry. -/

open Sys2Proof Sys2Proof.Machine

/-! ## Steps and resets -/

/-- A step takes the command at the front of the queue and runs it with the queue's rest. The queue of
commands from outside is the model's choice (notes/assumptions/4); R167 has each command executed whole. -/
def Obligations.StepTakesFrontCommand : Prop :=
  ∀ (c : Instr) (rest : List Instr) (s : State),
    step { s with pending := c :: rest } = exec c { s with pending := rest }

/-- The model's choices (notes/assumptions/1, 3 and 14): with no command waiting one timebase step passes,
the clock moves by one, the sense progress of lit segments runs up to 959 and nothing else changes; an
event that comes when the block gives it nothing to do changes nothing. -/
def Obligations.IdleStepsAndEventsOutOfPlace : Prop :=
  (∀ s : State, s.pending = [] →
      (s.position.openWindow = none → step s = .next { s with now := s.now + 1 })
        ∧ ∀ e, s.position.openWindow = some e →
          ∃ g : Eight SegmentGuard,
            step s = .next { s with now := s.now + 1, guard := { s.guard with segments := g } }
              ∧ ∀ i, g.get i = { s.guard.segments.get i with progress := (g.get i).progress }
                ∧ ((s.guard.segments.get i).turnedOff = true ∨ 960 ≤ (s.guard.segments.get i).progress →
                    g.get i = s.guard.segments.get i)
                ∧ ((s.guard.segments.get i).turnedOff = false →
                    (s.guard.segments.get i).progress < 960 →
                    (g.get i).progress = max (s.guard.segments.get i).progress
                      (min 959 (onSteps s.lamps.cycle (s.lamps.segments.get i).applied
                        (min (s.now + 1 - e.start) (48 * e.eEff))))))
    ∧ (∀ s : State,
        (∀ b, (s.views.get b).state ≠ .checking → exec (.tableCheckCompletion b) s = .next s)
          ∧ (s.engine.run ≠ none ∨ s.slots.readyOrder = [] → exec .warpFrameStart s = .next s)
          ∧ (s.engine.run = none → exec .itemProduction s = .next s ∧ exec .warpFrameEnd s = .next s)
          ∧ (s.position.mode ≠ .travel ∨ s.params.dwellTimeout = 0 → exec .dwellTimer s = .next s)
          ∧ (s.position.mode ≠ .dwell ∨ s.params.parkTimeout = 0 → exec .parkTimer s = .next s)
          ∧ (s.position.mode = .travel → exec .timeTrigger s = .next s)
          ∧ (s.position.sequencer ≠ .exposing → exec .exposureEnd s = .next s
            ∧ (∀ i peak voltage, exec (.senseWindowClose i peak voltage) s = .next s)
            ∧ ∀ i current, exec (.overcurrent i current) s = .next s)
          ∧ (s.position.sequencer ≠ .awaitingFrame → exec .sensorTimeout s = .next s
            ∧ exec .readoutLimit s = .next s)
          ∧ (s.guard.probe ≠ .probing → ∀ strings, exec (.probeCompletion strings) s = .next s))

/-- Every command and event is carried out: no step ends in a fault or a refusal. R167 gives every consumed
command an outcome; that an event out of its place is a step too, and the queue the commands come by, are
the model's choices (notes/assumptions/3 and 4). -/
def Obligations.EveryStepAnswersNext : Prop :=
  (∀ (c : Instr) (s : State), ∃ t, exec c s = .next t) ∧ ∀ s : State, ∃ t, step s = .next t

/-- Power-on reset and line reset leave every block at the values the manual gives (R58, R83, R128, R144
whole; with them what R21, R107, R159, R161, R171 and R177 list), the first temperature sample taken and
judged. The model's own fields (the queue, the index of free choices, the moments its timers run from) are
as notes/assumptions/4, 7 and 22 say; sense progress 0 is the model's choice (notes/assumptions/33). -/
def Obligations.ResetsSetEveryBlock : Prop :=
  ∀ (s : State) (a b : Bool) (temperature : Int),
    ∃ t, exec (.powerOnReset a b temperature) s = .next t
      ∧ exec (.lineReset a b temperature) s = .next t
      ∧ t.pending = s.pending ∧ t.freeIndex = s.freeIndex
      ∧ t.intake = { intake := .waiting, defects := [], edits := [], survey := .idle
                     lastSurvey := none }
      ∧ (∀ i, (t.slots.get i).state = .free ∧ (t.slots.get i).rows = []
          ∧ (t.slots.get i).record = none)
      ∧ t.slots.readyOrder = []
      ∧ (t.engine.run = none ∧ t.engine.nextNumber = 0 ∧ t.engine.reserved = 0
          ∧ t.engine.resetMark = true ∧ t.engine.lastFrame = none
          ∧ ∀ z, t.engine.accumulators.get z = { sum := 0, count := 0, fullScale := 0 }
            ∧ t.engine.lastZones.get z = { mean := 0, count := 0, unseen := true, glare := false })
      ∧ (∀ k, (t.views.get k).state = .empty ∧ (t.views.get k).header = none
          ∧ ∀ part, (t.views.get k).received part = [])
      ∧ (t.views.inForce = .raw ∧ t.views.pendingView = none
          ∧ t.views.verdict = { bank := none, verdict := .none, raster := none })
      ∧ t.position =
          { p := 0, l := 0, phaseA := a, phaseB := b, restPosition := none, lastCount := t.now
            speed := 0, windowStartValue := 0, windowStart := t.now, mode := .travel
            modeEntered := t.now, timeReference := none, sequencer := .ready, current := none
            outstanding := none, pendingTrigger := none, nextSequence := 0, skipTally := 0
            triggerLine := false }
      ∧ (t.lamps.cycle = 10 ∧ t.lamps.pendingCycle = none
          ∧ ∀ i, t.lamps.segments.get i =
              { staged := 0, applied := 0, tune := .steady, reference := 0, reseed := true
                verdict := .none, final := none })
      ∧ (∀ i, t.guard.segments.get i =
              { openLatch := false, shortLatch := false, overLatch := false, disabled := false
                openCount := 0, progress := 0, turnedOff := false }
            ∧ t.guard.results.get i = .notRun)
      ∧ (t.guard.probe = .idle ∧ t.guard.temperature = max (-40) (min 150 temperature)
          ∧ t.guard.thermal = (if 125 ≤ temperature then .shutdown
              else if 105 ≤ temperature then .derate else .normal)
          ∧ (t.guard.warn = true ↔ t.guard.thermal = .derate)
          ∧ (t.guard.shut = true ↔ t.guard.thermal = .shutdown)
          ∧ (t.guard.alert = true ↔ t.guard.thermal = .shutdown))
      ∧ (t.link.tether.up = false ∧ t.link.tether.holdReceived = false
          ∧ t.link.tether.holdSent = false ∧ t.link.chain.up = false
          ∧ t.link.chain.holdReceived = false ∧ t.link.chain.holdSent = false)
      ∧ (t.link.ownVideo = [] ∧ t.link.management = [] ∧ t.link.upForward = []
          ∧ t.link.downForward = [] ∧ t.link.turn = .ownVideo ∧ t.link.position = none)
      ∧ (∀ n ∈ t.link.counters.toList, n = 0)
      ∧ t.link.resetNotice = true ∧ t.link.statusOwed = false
      ∧ (∀ k, t.latched k = true ↔
          k = .resetNotice ∨ (k = .thermal ∧ t.guard.thermal ≠ .normal))
      ∧ t.params =
          { sourceWidth := 1280, sourceHeight := 1024, blackLevel := 64, darkThreshold := 256
            exposure := 2000, blurLimit := 0, triggerStep := 200, dwellTimeout := 20
            dwellInterval := 200, parkTimeout := 60, parkInterval := 10, wakeDistance := 8
            brightnessTarget := 512, tuneBand := 128, referenceBeta := 16, tuneHoldoff := 64
            autoRetune := true, ledFaultResponse := .off, ledFaultReport := .alert
            thermalReport := .statusOnly, reportMode := .everyFrame, eventMask := 0x7fff }

/-- The model's choice of a reset state (notes/assumptions/5): State.reset is what a power-on reset
leaves that finds the phases (0, 0) and the die at 0 degrees, and every invariant holds there. -/
def Obligations.ResetStateKeepsInvariants : Prop :=
  (∀ s : State, s.pending = [] → s.freeIndex = 0 →
      exec (.powerOnReset false false 0) s = .next State.reset)
    ∧ State.reset.QueuesBounded ∧ State.reset.DefectsSound ∧ State.reset.SurveySound
    ∧ State.reset.BanksSound
    ∧ State.reset.SlotsSound ∧ State.reset.SequencerSound ∧ State.reset.DutiesSound
    ∧ State.reset.params.InRange ∧ State.reset.GuardSound ∧ State.reset.RangesSound

/-! ## Replies and enquiries -/

/-- The REPLY cell (R167, TABLE 8-2, TABLE 8-4): header, command number, code, summary, content, and zeros
beyond the used length. A consumed command other than RESTART that finds no free place in the
management queue is discarded unexecuted and counted; nothing else changes (R167). That bits 7..5 of the
summary are 0 is the model's choice (notes/assumptions/36). -/
def Obligations.CommandsAreAnsweredOrDropped : Prop :=
  (∀ (s : State) (tag number : Byte) (a : Answer), a.content.length ≤ 61 →
      let c := replyCell s tag number a
      c.kind = .reply ∧ c.source = BitVec.ofNat 4 (s.link.position.getD 0) ∧ c.dest = 0
        ∧ c.tag = tag ∧ c.used.toNat = 3 + a.content.length ∧ c.payload.length = 64
        ∧ c.payload[0]? = some number ∧ c.payload[1]? = some (BitVec.ofNat 8 (replyCode a.code))
        ∧ c.payload[2]? = some s.summary
        ∧ (s.summary.getLsbD 0 = true ↔ ∃ i, (s.guard.segments.get i).faulted = true)
        ∧ (s.summary.extractLsb' 1 2).toNat = thermalCode s.guard.thermal
        ∧ s.summary.getLsbD 3 = s.link.resetNotice
        ∧ (s.summary.getLsbD 4 = true ↔ ∃ b, (s.views.get b).state = .checking)
        ∧ s.summary.extractLsb' 5 3 = 0
        ∧ (∀ k, k < a.content.length → c.payload[3 + k]? = a.content[k]?)
        ∧ ∀ k, 3 + a.content.length ≤ k → k < 64 → c.payload[k]? = some 0)
    ∧ (∀ (c : Instr) (s : State), (numbered c).isSome = true → 32 ≤ s.link.management.length →
        exec c s = .next { s with
          link := { s.link with
            counters := { s.link.counters with
              replyDropped := min 4294967295 (s.link.counters.replyDropped + 1) } } })

/-- READ answers DONE with the item's content, or BAD VALUE or NO SUCH ITEM, and changes nothing but the
management queue its REPLY joins (R169, R52, R56, R78, TABLE 8-9; the bytes of the longer contents are in
ReadContentsFollowTheTables). That READ COUNTERS leaves out the place of its own REPLY is the model's
reading (notes/assumptions/10), that its own video count leaves out reserved places the model's choice
(notes/assumptions/29). -/
def Obligations.ReadsAnswerAndChangeNothing : Prop :=
  ∀ (s : State) (tag : Byte), s.PlaceFree →
    exec (.readIdentity tag) s = .next (s.placeReply tag 1
        { code := .done
          content := [1, 0x0e, 0x24, 1] ++ bigEndian 6 Config.serialNumber.toNat
            ++ [8, BitVec.ofNat 8 (s.link.position.getD 0)] })
      ∧ exec (.readStatus tag) s = .next (s.placeReply tag 1
          { code := .done, content := 2 :: statusContent s s.link.latches })
      ∧ exec (.readCounters tag) s = .next (s.placeReply tag 1
          { code := .done
            content := 3 :: (s.link.counters.toList.flatMap (bigEndian 4)
              ++ [BitVec.ofNat 8 s.link.ownVideo.length, BitVec.ofNat 8 s.link.management.length,
                BitVec.ofNat 8 s.link.upForward.length, BitVec.ofNat 8 s.link.downForward.length]) })
      ∧ (∀ segment : Byte,
          (∀ i : Fin 8, segment.toNat = i.val → exec (.readZoneStats tag segment) s =
              .next (s.placeReply tag 1 { code := .done, content := 4 :: zoneStatsContent s i }))
            ∧ (8 ≤ segment.toNat → exec (.readZoneStats tag segment) s =
              .next (s.placeReply tag 1 { code := .badValue, content := [] })))
      ∧ exec (.readBankInfo tag) s = .next (s.placeReply tag 1
          { code := .done, content := 5 :: bankInfoContent s })
      ∧ exec (.readTableVerdict tag) s = .next (s.placeReply tag 1
          { code := .done, content := 6 :: verdictContent s.views.verdict })
      ∧ (∀ start : BitVec 16, exec (.readDefectEntries tag start) s = .next (s.placeReply tag 1
          { code := .done, content := 7 :: defectEntriesContent s.intake start.toNat }))
      ∧ (∀ (identifier segment : Byte) (v : Nat), identifier ≠ 14 →
          parameterValue s identifier.toNat = some v →
          exec (.readParameter tag identifier segment) s = .next (s.placeReply tag 1
            { code := .done
              content := [8, identifier, 0] ++ bigEndian 4 v
                ++ (if identifier = 13 then
                      match s.lamps.pendingCycle with
                      | some n => [1, BitVec.ofNat 8 n]
                      | none => [0, 0]
                    else [0, 0]) }))
      ∧ (∀ segment : Byte,
          (∀ i : Fin 8, segment.toNat = i.val → exec (.readParameter tag 14 segment) s =
            .next (s.placeReply tag 1
              { code := .done
                content := [8, 14, segment] ++ bigEndian 4 (s.lamps.segments.get i).staged ++ [0, 0] }))
            ∧ (8 ≤ segment.toNat → exec (.readParameter tag 14 segment) s =
              .next (s.placeReply tag 1 { code := .badValue, content := [] })))
      ∧ (∀ identifier segment : Byte, identifier = 0 ∨ 24 < identifier.toNat →
          exec (.readParameter tag identifier segment) s =
            .next (s.placeReply tag 1 { code := .noSuchItem, content := [] }))
      ∧ exec (.readProbeResult tag) s = .next (s.placeReply tag 1
          { code := .done
            content := 9 :: BitVec.ofNat 8 (probeStateCode s.guard.probe)
              :: s.guard.results.toList.map fun r => BitVec.ofNat 8 (probeResultCode r) })
      ∧ exec (.readTemperature tag) s = .next (s.placeReply tag 1
          { code := .done
            content := [10, BitVec.ofNat 8 (s.guard.temperature + 40).toNat,
              BitVec.ofNat 8 (thermalCode s.guard.thermal)] })

/-- The contents of the READ items byte by byte, from payload byte 4 (TABLE 8-9, TABLE 8-3, TABLE 10-3):
ZONE STATS, BANK INFO, TABLE VERDICT, DEFECT ENTRIES and the parameter values, with the codes the fields
use. What stands for an overflow count above 65535 is not said: a free value (notes/assumptions/31). That
the bits TABLE 8-9 and TABLE 8-5 leave undefined in the presence marks and the zone result are 0 is the
model's choice (notes/assumptions/36). -/
def Obligations.ReadContentsFollowTheTables : Prop :=
  ([TuneVerdict.none, .ok, .atTop, .atBottom, .offTarget, .unseen, .aborted, .fault].map tuneVerdictCode
        = List.range 8
      ∧ [BankState.empty, .opened, .checking, .valid, .active].map bankStateCode = List.range 5
      ∧ [View.bank .bank0, .bank .bank1, .raw].map viewCode = List.range 3)
    ∧ (∀ (s : State) (i : Fin 8),
      let b := zoneStatsContent s i;
      let d := s.lamps.segments.get i;
      let z := s.engine.lastZones.get i;
      b.length = 31 ∧ b[0]? = some (BitVec.ofNat 8 i.val)
        ∧ (∃ x : Byte, b[1]? = some x ∧ x.getLsbD 0 = s.engine.lastFrame.isSome
          ∧ x.getLsbD 1 = s.lamps.pendingCycle.isSome ∧ x.getLsbD 2 = d.isTuning
          ∧ (x.getLsbD 3 = true ↔
            ∃ trial duty first preTune, d.tune = .tuning trial duty (some first) preTune)
          ∧ x.getLsbD 4 = d.final.isSome ∧ x.getLsbD 5 = d.reseed ∧ x.extractLsb' 6 2 = 0)
        ∧ (b.drop 2).take 2 = bigEndian 2 (s.engine.lastFrame.getD 0).toNat
        ∧ (b.drop 4).take 2 = bigEndian 2
          (z.mean + (if z.unseen then 16384 else 0) + (if z.glare then 32768 else 0))
        ∧ (b.drop 6).take 3 = bigEndian 3 z.count
        ∧ b[9]? = some (BitVec.ofNat 8 s.lamps.cycle)
        ∧ b[10]? = some (BitVec.ofNat 8 (s.lamps.pendingCycle.getD 0))
        ∧ (b.drop 11).take 2 = bigEndian 2 d.staged ∧ (b.drop 13).take 2 = bigEndian 2 d.applied
        ∧ (b.drop 15).take 9 =
          (match d.tune with
            | .steady => List.replicate 9 0
            | .tuning trial duty first preTune =>
              [1, BitVec.ofNat 8 trial] ++ bigEndian 2 duty ++ bigEndian 2 (first.getD 0).toNat
                ++ bigEndian 2 preTune ++ [0]
            | .holdoff remaining => 2 :: List.replicate 7 0 ++ [BitVec.ofNat 8 remaining])
        ∧ (b.drop 24).take 2 = bigEndian 2 d.reference
        ∧ b[26]? = some (BitVec.ofNat 8 (tuneVerdictCode d.verdict))
        ∧ (b.drop 27).take 4 =
          match d.final with
          | none => List.replicate 4 0
          | some f => bigEndian 2 f.1 ++ bigEndian 2 f.2)
    ∧ (∀ s : State, (∀ k h, (s.views.get k).header = some h → h.label.length = 8) →
      let b := bankInfoContent s;
      b.length = 47
        ∧ (∀ (k : BankId) (o : Nat), (k = .bank0 ∧ o = 0) ∨ (k = .bank1 ∧ o = 23) →
          b[o]? = some (BitVec.ofNat 8 (bankStateCode (s.views.get k).state))
            ∧ ((s.views.get k).header = none → (b.drop (o + 1)).take 22 = List.replicate 22 0)
            ∧ ∀ h, (s.views.get k).header = some h →
              (b.drop (o + 1)).take 22 =
                bigEndian 2 h.wo ++ bigEndian 2 h.ho ++ bigEndian 2 h.fill ++ h.label
                  ++ bigEndian 2 (((h.wo / 16 + 1) * (h.ho / 16 + 1) + 14) / 15)
                  ++ bigEndian 2 ((s.views.get k).received .mesh).length
                  ++ [BitVec.ofNat 8 ((h.wo / 16 * (h.ho / 16) + 119) / 120),
                    BitVec.ofNat 8 ((s.views.get k).received .zone).length,
                    BitVec.ofNat 8 (((h.wo / 64 + 1) * (h.ho / 64 + 1) + 29) / 30),
                    BitVec.ofNat 8 ((s.views.get k).received .gain).length])
        ∧ ∃ x : Byte, b[46]? = some x ∧ (x.extractLsb' 0 4).toNat = viewCode s.views.inForce
          ∧ (x.extractLsb' 4 4).toNat =
            match s.views.pendingView with
            | none => 0
            | some v => viewCode v + 1)
    ∧ (∀ r : VerdictRecord, verdictContent r =
      (match r.bank with
          | none => 15
          | some .bank0 => 0
          | some .bank1 => 1)
        :: (match r.verdict with
            | .none => [0, 0, 0, 0]
            | .passed => [1, 0, 0, 0]
            | .incomplete .mesh k => [2, 1] ++ bigEndian 2 k
            | .incomplete .zone k => [2, 2] ++ bigEndian 2 k
            | .incomplete .gain k => [2, 3] ++ bigEndian 2 k
            | .nodeOutside n => [3, 0] ++ bigEndian 2 n)
          ++ (match r.raster with
            | none => [0, 0, 0, 0]
            | some c => bigEndian 2 c.1 ++ bigEndian 2 c.2))
    ∧ (∀ (u : SensorIntake) (start : Nat),
      let b := defectEntriesContent u start;
      let n := min 15 (u.defects.length - start);
      b.length = 14 + 3 * n ∧ b.take 2 = bigEndian 2 u.defects.length
        ∧ b[2]? = some (BitVec.ofNat 8 u.edits.length)
        ∧ (b.drop 3).take 2 = bigEndian 2 (applyEdits u.defects u.edits).length
        ∧ b[5]? = some ((match u.survey with | .idle => 0 | .armed => 1 | .collecting .. => 2) : Byte)
        ∧ (u.lastSurvey = none → (b.drop 6).take 7 = List.replicate 7 0)
        ∧ (∀ r, u.lastSurvey = some r → b[6]? = some 1 ∧ (b.drop 7).take 2 = bigEndian 2 r.added
          ∧ (r.overflow ≤ 65535 → (b.drop 9).take 2 = bigEndian 2 r.overflow)
          ∧ (b.drop 11).take 2 = bigEndian 2 r.sequence.toNat)
        ∧ b[13]? = some (BitVec.ofNat 8 n)
        ∧ ∀ j, j < n → ∀ e, u.defects[start + j]? = some e → e.row < 1024 → e.column < 2048 →
          (b.drop (14 + 3 * j)).take 3 = bigEndian 3 (e.row * 16384 + e.column * 8
            + (match e.method with | .h => 0 | .v => 2 | .q => 4)
            + (match e.origin with | .loaded => 0 | .learned => 1)))
    ∧ ∀ s : State,
      (List.range 25).map (parameterValue s) =
          [none, some s.params.sourceWidth, some s.params.sourceHeight, some s.params.blackLevel,
            some s.params.darkThreshold, some s.params.exposure, some s.params.blurLimit,
            some s.params.triggerStep, some s.params.dwellTimeout, some s.params.dwellInterval,
            some s.params.parkTimeout, some s.params.parkInterval, some s.params.wakeDistance,
            some s.lamps.cycle, none, some s.params.brightnessTarget, some s.params.tuneBand,
            some s.params.referenceBeta, some s.params.tuneHoldoff,
            some (if s.params.autoRetune then 1 else 0),
            some (match s.params.ledFaultResponse with | .off => 0 | .keep => 1),
            some (match s.params.ledFaultReport with | .alert => 0 | .statusOnly => 1),
            some (match s.params.thermalReport with | .alert => 0 | .statusOnly => 1),
            some (match s.params.reportMode with
              | .everyFrame => 0 | .onEvent => 1 | .whileTravelling => 2),
            some s.params.eventMask.toNat]
        ∧ ∀ n, 24 < n → parameterValue s n = none

/-! ## Parameters -/

/-- A value of SET is clamped to its range, then rounded down to its step within it; SET of a numeric
parameter whose effect comes later stores the value taken and answers with it, CLAMPED when it had to
be changed; nothing else changes (R170, R68, R79, R105, R122, R125). -/
def Obligations.SetClampsAndStoresNumbers : Prop :=
  ((∀ lo hi step v : Nat, 0 < step → lo ≤ hi → lo % step = 0 →
        let n := takeValue lo hi step v;
        lo ≤ n ∧ n ≤ hi ∧ n % step = 0 ∧ n ≤ max lo (min hi v) ∧ max lo (min hi v) < n + step)
      ∧ takeValue 256 1280 16 1000 = 992 ∧ takeValue 256 1280 16 100 = 256)
    ∧ (∀ (s : State) (tag : Byte) (v : Word), s.PlaceFree →
        let stored := fun (number : Byte) (n : Nat) (p : Parameters) =>
          Host.Outcome.next (φ := Fault) (ρ := Refusal) (({ s with params := p } : State).placeReply tag 2
            { code := if n = v.toNat then .done else .clamped
              content := [number, 0] ++ bigEndian 4 n });
        (let n := takeValue 256 1280 16 v.toNat;
          exec (.setSourceWidth tag v) s = stored 1 n { s.params with sourceWidth := n })
          ∧ (let n := takeValue 256 1024 16 v.toNat;
            exec (.setSourceHeight tag v) s = stored 2 n { s.params with sourceHeight := n })
          ∧ (let n := min 1023 v.toNat;
            exec (.setBlackLevel tag v) s = stored 3 n { s.params with blackLevel := n })
          ∧ (let n := max 1 (min 4095 v.toNat);
            exec (.setDarkThreshold tag v) s = stored 4 n { s.params with darkThreshold := n })
          ∧ (let n := max 50 (min 20000 v.toNat);
            exec (.setExposure tag v) s = stored 5 n { s.params with exposure := n })
          ∧ (let n := min 64 v.toNat;
            exec (.setBlurLimit tag v) s = stored 6 n { s.params with blurLimit := n })
          ∧ (let n := max 16 (min 1008 v.toNat);
            exec (.setBrightnessTarget tag v) s = stored 15 n { s.params with brightnessTarget := n })
          ∧ (let n := max 16 (min 512 v.toNat);
            exec (.setTuneBand tag v) s = stored 16 n { s.params with tuneBand := n })
          ∧ (let n := max 1 (min 256 v.toNat);
            exec (.setReferenceBeta tag v) s = stored 17 n { s.params with referenceBeta := n })
          ∧ (let n := min 255 v.toNat;
            exec (.setTuneHoldoff tag v) s = stored 18 n { s.params with tuneHoldoff := n }))

/-- SET of an enumerated parameter stores the choice named and answers DONE, or BAD VALUE for a value that
names none; the report settings judge the ALERT line afresh at once; EVENT MASK takes its fifteen marks
(R170, R126, R135, R139, R174, section 8.8). The reply to EVENT MASK is the model's choice
(notes/assumptions/24). -/
def Obligations.SetStoresChoices : Prop :=
  ∀ (s : State) (tag : Byte) (v : Word), s.PlaceFree →
    let taken := fun (number : Byte) (u : State) =>
      Host.Outcome.next (φ := Fault) (ρ := Refusal) (u.placeReply tag 2
        { code := .done, content := [number, 0] ++ bigEndian 4 v.toNat })
    let bad := Host.Outcome.next (φ := Fault) (ρ := Refusal)
      (s.placeReply tag 2 { code := .badValue, content := [] })
    let judged := fun (p : Parameters) =>
      ({ s with params := p, guard := { s.guard with alert := alertLevel p s.guard } } : State);
    (exec (.setAutoRetune tag v) s =
        if v = 0 then taken 19 { s with params := { s.params with autoRetune := false } }
        else if v = 1 then taken 19 { s with params := { s.params with autoRetune := true } }
        else bad)
      ∧ (exec (.setLedFaultResponse tag v) s =
        if v = 0 then taken 20 { s with params := { s.params with ledFaultResponse := .off } }
        else if v = 1 then taken 20 { s with params := { s.params with ledFaultResponse := .keep } }
        else bad)
      ∧ (exec (.setLedFaultReport tag v) s =
        if v = 0 then taken 21 (judged { s.params with ledFaultReport := .alert })
        else if v = 1 then taken 21 (judged { s.params with ledFaultReport := .statusOnly })
        else bad)
      ∧ (exec (.setThermalReport tag v) s =
        if v = 0 then taken 22 (judged { s.params with thermalReport := .alert })
        else if v = 1 then taken 22 (judged { s.params with thermalReport := .statusOnly })
        else bad)
      ∧ (exec (.setReportMode tag v) s =
        if v = 0 then taken 23 { s with params := { s.params with reportMode := .everyFrame } }
        else if v = 1 then taken 23 { s with params := { s.params with reportMode := .onEvent } }
        else if v = 2 then taken 23 { s with params := { s.params with reportMode := .whileTravelling } }
        else bad)
      ∧ exec (.setEventMask tag v) s = .next
        (({ s with params := { s.params with eventMask := v.setWidth 15 } } : State).placeReply tag 2
          { code := .done, content := [24, 0] ++ bigEndian 4 (v.toNat % 32768) })

/-- SET of TRIGGER STEP stores the step and re-bases L to floor(P/STEP) × STEP, and raises no trigger
(R90). -/
def Obligations.SetTriggerStepRebases : Prop :=
  ∀ (s : State) (tag : Byte) (v : Word), s.PlaceFree →
    let n := max 1 (min 65535 v.toNat);
    let l := s.position.p / (n : Int) * (n : Int);
    exec (.setTriggerStep tag v) s = .next
        (({ s with
            params := { s.params with triggerStep := n }
            position := { s.position with l := l } } : State).placeReply tag 2
          { code := if n = v.toNat then .done else .clamped
            content := [7, 0] ++ bigEndian 4 n })
      ∧ l ≤ s.position.p ∧ s.position.p < l + n

/-- What a motion parameter set while it is already met does at once (R91 to R95): a passed DWELL TIMEOUT
or PARK TIMEOUT changes the mode, with the TIME trigger due at the entry, a due interval raises the TIME
trigger, a met WAKE DISTANCE wakes with the distance test on the whole of the creep; otherwise the value
is stored and nothing else changes. That the REPLY stands last, that a passed park timer follows an entry
to DWELL at once, and that a wake keeps the time of last count are the model's readings
(notes/assumptions/9, 17 and 18). -/
def Obligations.SetMotionParametersActAtOnce : Prop :=
  ∀ (s : State) (tag : Byte) (v : Word), s.PlaceFree →
    let answer := fun (number : Byte) (n : Nat) =>
      ({ code := if n = v.toNat then .done else .clamped
         content := [number, 0] ++ bigEndian 4 n } : Answer)
    let held := fun (p : Parameters) =>
      ({ s with params := p, link := { s.link with replyPlace := true } } : State)
    let framed := fun (p : Parameters) (number : Byte) (n : Nat) (t : State) =>
      t.params = p ∧ t.now = s.now ∧ t.intake = s.intake ∧ t.slots = s.slots
        ∧ t.engine = s.engine ∧ t.views = s.views ∧ t.position.p = s.position.p
        ∧ t.position.lastCount = s.position.lastCount ∧ t.position.speed = s.position.speed
        ∧ t.Replied tag 2 (answer number n)
    let raised := fun (t : State) (cause : Cause) (x : Int) =>
      t.position.pendingTrigger = some { cause, tag := x }
        ∨ ∃ r, t.position.outstanding = some r ∧ r.cause = cause ∧ r.tag = x
    let timed := fun (u : State) => ({ u with
      position := { u.position with timeReference := some u.now } } : State).raiseTrigger .time
        u.position.p
    let due := fun (u : State) (interval : Nat) =>
      u.position.timeReference.getD u.position.modeEntered + interval
    let parkEnds := s.position.lastCount + 48000000 * s.params.parkTimeout
    let parked := fun (u : State) =>
      let w := ({ u with position := { u.position with mode := .parked, modeEntered := u.now } } :
        State).latch [.motion];
      if due w (48000000 * s.params.parkInterval) ≤ w.now then timed w else w
    (let n := min 600 v.toNat;
      let p := { s.params with dwellTimeout := n };
      if s.position.mode = .travel ∧ n ≠ 0 ∧ s.position.lastCount + 4800000 * n ≤ s.now then
        let a := ({ held p with position := { s.position with
          mode := .dwell, modeEntered := s.now, restPosition := some s.position.p } } : State).latch
            [.motion];
        let timeDue := s.position.timeReference.getD s.now + 48000 * s.params.dwellInterval ≤ s.now;
        let b := if timeDue then timed a else a;
        let parks := s.params.parkTimeout ≠ 0 ∧ parkEnds ≤ s.now;
        ∃ t, exec (.setDwellTimeout tag v) s = .next t ∧ framed p 8 n t
          ∧ t = (if parks then parked b else b).placeReply tag 2 (answer 8 n)
          ∧ t.position.restPosition = some s.position.p ∧ t.Reported .motion
          ∧ t.position.mode = (if parks then .parked else .dwell)
          ∧ (timeDue → raised t .time s.position.p ∧ t.position.timeReference = some s.now)
      else exec (.setDwellTimeout tag v) s =
        .next (({ s with params := p } : State).placeReply tag 2 (answer 8 n)))
      ∧ (let n := max 20 (min 10000 v.toNat);
        let p := { s.params with dwellInterval := n };
        let interval := if s.position.mode = .parked then 48000000 * s.params.parkInterval else 48000 * n;
        if s.position.mode ≠ .travel ∧ due s interval ≤ s.now then
          ∃ t, exec (.setDwellInterval tag v) s = .next t ∧ framed p 9 n t
            ∧ t = (timed (held p)).placeReply tag 2 (answer 9 n)
            ∧ t.position.timeReference = some s.now ∧ raised t .time s.position.p
        else exec (.setDwellInterval tag v) s =
          .next (({ s with params := p } : State).placeReply tag 2 (answer 9 n)))
      ∧ (let n := min 3600 v.toNat;
        let p := { s.params with parkTimeout := n };
        if s.position.mode = .dwell ∧ n ≠ 0 ∧ s.position.lastCount + 48000000 * n ≤ s.now then
          ∃ t, exec (.setParkTimeout tag v) s = .next t ∧ framed p 10 n t
            ∧ t = (parked (held p)).placeReply tag 2 (answer 10 n)
            ∧ t.position.restPosition = s.position.restPosition ∧ t.position.mode = .parked
            ∧ t.Reported .motion
        else exec (.setParkTimeout tag v) s =
          .next (({ s with params := p } : State).placeReply tag 2 (answer 10 n)))
      ∧ (let n := max 1 (min 600 v.toNat);
        let p := { s.params with parkInterval := n };
        let interval := if s.position.mode = .parked then 48000000 * n else 48000 * s.params.dwellInterval;
        if s.position.mode ≠ .travel ∧ due s interval ≤ s.now then
          ∃ t, exec (.setParkInterval tag v) s = .next t ∧ framed p 11 n t
            ∧ t = (timed (held p)).placeReply tag 2 (answer 11 n)
            ∧ t.position.timeReference = some s.now ∧ raised t .time s.position.p
        else exec (.setParkInterval tag v) s =
          .next (({ s with params := p } : State).placeReply tag 2 (answer 11 n)))
      ∧ (let n := max 1 (min 255 v.toNat);
        let p := { s.params with wakeDistance := n };
        if s.position.mode ≠ .travel
            ∧ ∃ r, s.position.restPosition = some r ∧ n ≤ (s.position.p - r).natAbs then
          let step := (s.params.triggerStep : Int);
          let l := s.position.l;
          let below := s.position.p / step * step;
          let above := -(-s.position.p / step) * step;
          let woken := fun (x : Int) => ({ held p with position := { s.position with
            mode := .travel, modeEntered := s.now, restPosition := none, l := x } } : State);
          let done := fun (u : State) => (u.latch [.motion]).placeReply tag 2 (answer 12 n);
          ∃ t, exec (.setWakeDistance tag v) s = .next t ∧ framed p 12 n t
            ∧ t.position.restPosition = none ∧ t.position.mode = .travel ∧ t.Reported .motion
            ∧ (l + step ≤ s.position.p → t = done ((woken below).raiseTrigger .distance below)
              ∧ raised t .distance below)
            ∧ (s.position.p ≤ l - step → 0 < step →
              t = done ((woken above).raiseTrigger .distance above) ∧ raised t .distance above)
            ∧ (l - step < s.position.p → s.position.p < l + step → t = done (woken l))
        else exec (.setWakeDistance tag v) s =
          .next (({ s with params := p } : State).placeReply tag 2 (answer 12 n)))

/-- SET of LED CYCLE stores its value as the pending cycle length, clamped to 8..11; the cycle length in
force and every duty stay (R110, R170). SET of DUTY (R113): BAD VALUE for a segment outside 0..7; else the
duty clamped to 0..2^N is staged, the segment's tune aborted first and the segment STEADY afterwards when
it was TUNING. That the REPLY stands last is the model's reading (notes/assumptions/9). -/
def Obligations.SetCycleWaitsAndDutyIsStaged : Prop :=
  (∀ (s : State) (tag : Byte) (v : Word), s.PlaceFree →
      let n := max 8 (min 11 v.toNat);
      exec (.setLedCycle tag v) s = .next
        (({ s with lamps := { s.lamps with pendingCycle := some n } } : State).placeReply tag 2
          { code := if n = v.toNat then .done else .clamped
            content := [13, 0] ++ bigEndian 4 n }))
    ∧ (∀ (s : State) (tag segment : Byte) (v : Word), s.PlaceFree →
        (8 ≤ segment.toNat → exec (.setDuty tag segment v) s =
            .next (s.placeReply tag 2 { code := .badValue, content := [] }))
          ∧ ∀ i : Fin 8, segment.toNat = i.val →
            let d := min v.toNat (2 ^ s.lamps.cycle);
            let old := s.lamps.segments.get i;
            ∃ t, exec (.setDuty tag segment v) s = .next t
              ∧ t.lamps.cycle = s.lamps.cycle ∧ t.lamps.pendingCycle = s.lamps.pendingCycle
              ∧ (∀ j, j ≠ i → t.lamps.segments.get j = s.lamps.segments.get j)
              ∧ t.lamps.segments.get i =
                  (if old.isTuning then { old with staged := d, tune := .steady, verdict := .aborted }
                   else { old with staged := d })
              ∧ t.now = s.now ∧ t.params = s.params ∧ t.intake = s.intake ∧ t.slots = s.slots
              ∧ t.engine = s.engine ∧ t.views = s.views ∧ t.position = s.position ∧ t.guard = s.guard
              ∧ s.link.KeptBy t.link
              ∧ t.Replied tag 2
                  { code := if d = v.toNat then .done else .clamped
                    content := [14, segment] ++ bigEndian 4 d }
              ∧ (old.isTuning = true → t.Reported .tuneDone)
              ∧ (old.isTuning = false → t.link.latches = s.link.latches))

/-! ## View banks -/

/-- TABLE OPEN (R41, R42): the header brought into range, the bank OPEN with nothing received, the
reply with the values taken and the segment counts; or BAD VALUE, REFUSED or BUSY with nothing
changed. -/
def Obligations.TableOpenOutcomes : Prop :=
  ∀ (s : State) (tag bank : Byte) (width height fill : BitVec 16) (label : List Byte), s.PlaceFree →
    let wo := max 128 (min 1024 width.toNat) / 64 * 64;
    let ho := max 128 (min 1024 height.toNat) / 64 * 64;
    let f := min 1023 fill.toNat;
    let mesh := ((wo / 16 + 1) * (ho / 16 + 1) + 14) / 15;
    let zone := (wo / 16 * (ho / 16) + 119) / 120;
    let gain := ((wo / 64 + 1) * (ho / 64 + 1) + 29) / 30;
    let turnedAway := fun (code : ReplyCode) =>
      Host.Outcome.next (φ := Fault) (ρ := Refusal) (s.placeReply tag 3 { code, content := [] });
    (2 ≤ bank.toNat → exec (.tableOpen tag bank width height fill label) s = turnedAway .badValue)
      ∧ ∀ b : BankId, (bank = 0 ∧ b = .bank0) ∨ (bank = 1 ∧ b = .bank1) →
        ((s.views.get b).state = .active →
            exec (.tableOpen tag bank width height fill label) s = turnedAway .refused)
          ∧ ((s.views.get b).state = .checking →
            exec (.tableOpen tag bank width height fill label) s = turnedAway .busy)
          ∧ ((s.views.get b).state = .valid → s.views.pendingView = some (.bank b) →
            exec (.tableOpen tag bank width height fill label) s = turnedAway .refused)
          ∧ ((s.views.get b).state = .empty ∨ (s.views.get b).state = .opened
              ∨ ((s.views.get b).state = .valid ∧ s.views.pendingView ≠ some (.bank b)) →
            exec (.tableOpen tag bank width height fill label) s = .next
              (({ s with
                  views := s.views.set b
                    { state := .opened, header := some { wo, ho, fill := f, label }, mesh := []
                      zones := [], gains := [], checkRaster := none } } : State).placeReply tag 3
                { code := if wo = width.toNat ∧ ho = height.toNat ∧ f = fill.toNat then .done
                    else .clamped
                  content := bigEndian 2 wo ++ bigEndian 2 ho ++ bigEndian 2 f ++ bigEndian 2 mesh
                    ++ [BitVec.ofNat 8 zone, BitVec.ofNat 8 gain] }))

/-- TABLE DATA is judged in the order R44 gives: the first case that applies gives the reply, and only
the last stores the segment. -/
def Obligations.TableDataIsJudgedInOrder : Prop :=
  ∀ (s : State) (tag used : Byte) (bank part : BitVec 4) (number : BitVec 16) (entries : List Byte),
    s.PlaceFree →
    let turnedAway := fun (code : ReplyCode) =>
      Host.Outcome.next (φ := Fault) (ρ := Refusal) (s.placeReply tag 4 { code, content := [] });
    (2 ≤ bank.toNat ∨ part.toNat = 0 ∨ 4 ≤ part.toNat →
        exec (.tableData tag used bank part number entries) s = turnedAway .badValue)
      ∧ ∀ (b : BankId) (p : TablePart), (bank = 0 ∧ b = .bank0) ∨ (bank = 1 ∧ b = .bank1) →
        (part = 1 ∧ p = .mesh) ∨ (part = 2 ∧ p = .zone) ∨ (part = 3 ∧ p = .gain) →
        ((s.views.get b).state ≠ .opened →
            exec (.tableData tag used bank part number entries) s = turnedAway .refused)
          ∧ ∀ h, (s.views.get b).state = .opened → (s.views.get b).header = some h →
            (h.segments p ≤ number.toNat →
                exec (.tableData tag used bank part number entries) s = turnedAway .badValue)
              ∧ (number.toNat < h.segments p → used.toNat < 64 →
                exec (.tableData tag used bank part number entries) s = turnedAway .badValue)
              ∧ (number.toNat < h.segments p → 64 ≤ used.toNat →
                let stored := (s.views.get b).load h p number.toNat entries;
                exec (.tableData tag used bank part number entries) s = .next
                  (({ s with views := s.views.set b stored.1 } : State).placeReply tag 4
                    { code := if stored.2 = 0 then .done else .clamped
                      content := [BitVec.ofNat 8 stored.2] }))

/-- A stored segment (R43, R45, R46): its entries stand at the indices of its number, brought into
range, as last received; every other entry and part stays; its number joins the received-segment set;
the entries adjusted are counted, positions beyond the part's last left out. -/
def Obligations.StoredSegmentReadsBack : Prop :=
  ∀ (b : Bank) (h : Header) (k : Nat) (bytes : List Byte), bytes.length = 60 →
    let value := fun j => (bytes.getD j 0).toNat;
    let sx := fun j => value (4 * j) % 128 * 256 + value (4 * j + 1);
    let nibble := fun j => if j % 2 = 0 then value (j / 2) / 16 else value (j / 2) % 16;
    let gain := fun j => value (2 * j) * 256 + value (2 * j + 1);
    let m := b.load h .mesh k bytes;
    let z := b.load h .zone k bytes;
    let g := b.load h .gain k bytes;
    (m.1 = { b with mesh := m.1.mesh } ∧ (∀ n, n ∈ m.1.received .mesh ↔ n = k ∨ n ∈ b.received .mesh)
        ∧ m.2 = ((List.range (min 15 (h.entries .mesh - 15 * k))).filter fun j => 20479 < sx j).length
        ∧ ∀ i, i < h.entries .mesh → m.1.node i =
            if i / 15 = k then
              { sx := min 20479 (sx (i % 15))
                sy := value (4 * (i % 15) + 2) % 64 * 256 + value (4 * (i % 15) + 3)
                isVoid := decide (128 ≤ value (4 * (i % 15))) }
            else b.node i)
      ∧ (z.1 = { b with zones := z.1.zones }
        ∧ (∀ n, n ∈ z.1.received .zone ↔ n = k ∨ n ∈ b.received .zone)
        ∧ z.2 = ((List.range (min 120 (h.entries .zone - 120 * k))).filter fun j =>
            8 ≤ nibble j ∧ nibble j ≤ 14).length
        ∧ ∀ i, i < h.entries .zone → (z.1.zone i).map Fin.val =
            if i / 120 = k then if nibble (i % 120) < 8 then some (nibble (i % 120)) else none
            else (b.zone i).map Fin.val)
      ∧ (g.1 = { b with gains := g.1.gains } ∧ (∀ n, n ∈ g.1.received .gain ↔ n = k ∨ n ∈ b.received .gain)
        ∧ g.2 = ((List.range (min 30 (h.entries .gain - 30 * k))).filter fun j => 4095 < gain j).length
        ∧ ∀ i, i < h.entries .gain → g.1.gain i =
            if i / 30 = k then min 4095 (gain (i % 30)) else b.gain i)

/-- TABLE CLOSE (R47): an OPEN bank becomes CHECKING with the source raster in force as its check raster;
any other is REFUSED, a bank number other than 0 or 1 is BAD VALUE. The completion of a check (R48, R49,
R50, R52): the first missing segment in the order MESH, ZONE, GAIN, else the first node not VOID that lies
outside the check raster, else PASSED; the bank VALID or EMPTY, the verdict record replaced, TABLE VERDICT
latched. That the summary of the REPLY shows the state after the command is the model's reading
(notes/assumptions/10). -/
def Obligations.ChecksBeginAndComplete : Prop :=
  (∀ (s : State) (tag bank : Byte), s.PlaceFree →
      let turnedAway := fun (code : ReplyCode) =>
        Host.Outcome.next (φ := Fault) (ρ := Refusal) (s.placeReply tag 5 { code, content := [] });
      (2 ≤ bank.toNat → exec (.tableClose tag bank) s = turnedAway .badValue)
        ∧ ∀ b : BankId, (bank = 0 ∧ b = .bank0) ∨ (bank = 1 ∧ b = .bank1) →
          ((s.views.get b).state ≠ .opened → exec (.tableClose tag bank) s = turnedAway .refused)
            ∧ ((s.views.get b).state = .opened → exec (.tableClose tag bank) s = .next
                (({ s with views := s.views.set b { s.views.get b with
                      state := .checking
                      checkRaster := some (s.params.sourceWidth, s.params.sourceHeight) } } :
                  State).placeReply tag 5 { code := .accepted, content := [] })))
    ∧ (∀ (s : State) (b : BankId) (h : Header) (wc hc : Nat),
        (s.views.get b).state = .checking → (s.views.get b).header = some h →
        (s.views.get b).checkRaster = some (wc, hc) →
        let bank := s.views.get b;
        let holds := fun (p : TablePart) (k : Nat) => k ∈ bank.received p;
        let whole := fun (p : TablePart) => ∀ k, k < h.segments p → holds p k;
        let firstMissing := fun (p : TablePart) (k : Nat) =>
          k < h.segments p ∧ ¬holds p k ∧ ∀ j, j < k → holds p j;
        let outside := fun (i : Nat) =>
          (bank.node i).isVoid = false
            ∧ ((wc - 1) * 16 < (bank.node i).sx ∨ (hc - 1) * 16 < (bank.node i).sy);
        ∃ (t : State) (v : CheckVerdict), exec (.tableCheckCompletion b) s = .next t
          ∧ t = { s with views := t.views, link := t.link } ∧ s.link.KeptBy t.link
          ∧ t.views = { s.views.set b
                (if v = .passed then { bank with state := .valid, checkRaster := none }
                 else { state := .empty, header := none, mesh := [], zones := [], gains := []
                        checkRaster := none }) with
              verdict := { bank := some b, verdict := v, raster := some (wc, hc) } }
          ∧ t.Reported .tableVerdict
          ∧ (∀ k, v = .incomplete .mesh k ↔ firstMissing .mesh k)
          ∧ (∀ k, v = .incomplete .zone k ↔ whole .mesh ∧ firstMissing .zone k)
          ∧ (∀ k, v = .incomplete .gain k ↔ whole .mesh ∧ whole .zone ∧ firstMissing .gain k)
          ∧ (∀ n, v = .nodeOutside n ↔ whole .mesh ∧ whole .zone ∧ whole .gain
              ∧ n < h.entries .mesh ∧ outside n ∧ ∀ m, m < n → ¬outside m)
          ∧ (v = .passed ↔ whole .mesh ∧ whole .zone ∧ whole .gain
              ∧ ∀ n, n < h.entries .mesh → ¬outside n))

/-- COMMIT VIEW and RAW VIEW (R53, R54): the pending view change set, cancelled or left; no bank
changes its state. -/
def Obligations.ViewChangesWait : Prop :=
  ∀ (s : State) (tag bank : Byte), s.PlaceFree →
    let pendingSet := fun (number : Byte) (v : Option View) (code : ReplyCode) =>
      Host.Outcome.next (φ := Fault) (ρ := Refusal)
        (({ s with views := { s.views with pendingView := v } } : State).placeReply tag number
          { code, content := [] });
    (2 ≤ bank.toNat → exec (.commitView tag bank) s =
        .next (s.placeReply tag 6 { code := .badValue, content := [] }))
      ∧ (∀ b : BankId, (bank = 0 ∧ b = .bank0) ∨ (bank = 1 ∧ b = .bank1) →
        ((s.views.get b).state = .valid →
            exec (.commitView tag bank) s = pendingSet 6 (some (.bank b)) .accepted)
          ∧ ((s.views.get b).state = .active →
            exec (.commitView tag bank) s = pendingSet 6 none .done)
          ∧ ((s.views.get b).state = .empty ∨ (s.views.get b).state = .opened
              ∨ (s.views.get b).state = .checking → exec (.commitView tag bank) s =
            .next (s.placeReply tag 6 { code := .refused, content := [] })))
      ∧ exec (.rawView tag) s = pendingSet 7 (some .raw) .accepted

/-! ## Defect list and dark survey -/

/-- DEFECT ADD, REMOVE and CLEAR (R73 to R76) are judged in order against the projected list and the
queue; every reply carries the projected size and the number of edits after the command. -/
def Obligations.DefectEditsAreJudged : Prop :=
  ∀ (s : State) (tag : Byte), s.PlaceFree →
    let list := applyEdits s.intake.defects s.intake.edits;
    let answered := fun (number : Byte) (code : ReplyCode) =>
      Host.Outcome.next (φ := Fault) (ρ := Refusal) (s.placeReply tag number
        { code, content := bigEndian 2 list.length ++ [BitVec.ofNat 8 s.intake.edits.length] });
    let queued := fun (number : Byte) (edit : Edit) =>
      Host.Outcome.next (φ := Fault) (ρ := Refusal)
        (({ s with intake := { s.intake with edits := s.intake.edits ++ [edit] } } :
          State).placeReply tag number
          { code := .accepted
            content := bigEndian 2 (applyEdit list edit).length
              ++ [BitVec.ofNat 8 (s.intake.edits.length + 1)] });
    let listed := fun (row column : Nat) => ∃ e ∈ list, e.row = row ∧ e.column = column;
    (∀ (row : BitVec 10) (column : BitVec 11) (method : BitVec 2),
        (1279 < column.toNat ∨ method = 3 →
            exec (.defectAdd tag row column method) s = answered 8 .badValue)
          ∧ (column.toNat ≤ 1279 → method ≠ 3 →
            (16 ≤ s.intake.edits.length →
                exec (.defectAdd tag row column method) s = answered 8 .busy)
              ∧ (s.intake.edits.length < 16 → listed row.toNat column.toNat →
                exec (.defectAdd tag row column method) s = answered 8 .existing)
              ∧ (s.intake.edits.length < 16 → ¬listed row.toNat column.toNat → 512 ≤ list.length →
                exec (.defectAdd tag row column method) s = answered 8 .full)
              ∧ (s.intake.edits.length < 16 → ¬listed row.toNat column.toNat → list.length < 512 →
                exec (.defectAdd tag row column method) s = queued 8
                  (.add row.toNat column.toNat
                    (if method = 0 then .h else if method = 1 then .v else .q)))))
      ∧ (∀ (row : BitVec 10) (column : BitVec 11),
        (1279 < column.toNat → exec (.defectRemove tag row column) s = answered 9 .badValue)
          ∧ (column.toNat ≤ 1279 → 16 ≤ s.intake.edits.length →
            exec (.defectRemove tag row column) s = answered 9 .busy)
          ∧ (column.toNat ≤ 1279 → s.intake.edits.length < 16 → ¬listed row.toNat column.toNat →
            exec (.defectRemove tag row column) s = answered 9 .absent)
          ∧ (column.toNat ≤ 1279 → s.intake.edits.length < 16 → listed row.toNat column.toNat →
            exec (.defectRemove tag row column) s = queued 9 (.remove row.toNat column.toNat)))
      ∧ ∀ originFilter : Byte,
        (2 ≤ originFilter.toNat → exec (.defectClear tag originFilter) s = answered 10 .badValue)
          ∧ (originFilter.toNat < 2 → 16 ≤ s.intake.edits.length →
            exec (.defectClear tag originFilter) s = answered 10 .busy)
          ∧ (originFilter.toNat < 2 → s.intake.edits.length < 16 →
            exec (.defectClear tag originFilter) s
              = queued 10 (.clear (decide (originFilter = 1))))

/-- An edit applied to a list in order (R69, R77): ADD of an absent coordinate puts a LOADED entry at its
place, REMOVE takes out the entry of its coordinate, CLEAR those its filter names. The merge at a survey
frame's end (R66, R81): candidates not named by a queued ADD or REMOVE join the list in order as LEARNED
entries of method Q while the peak size is below 512, the rest are overflow; the list keeps its order,
the peak stays within 512, the result is recorded and the survey is IDLE. That the peak size is that of
section 4.7's definition where a queued CLEAR makes it differ from R81's rise by one is the model's choice
(notes/assumptions/34). -/
def Obligations.EditsAndMergesKeepTheOrder : Prop :=
  (∀ list : List DefectEntry, list.Pairwise DefectEntry.Before →
      (∀ (row column : Nat) (m : Method), (∀ e ∈ list, ¬(e.row = row ∧ e.column = column)) →
          (applyEdit list (.add row column m)).Pairwise DefectEntry.Before
            ∧ (applyEdit list (.add row column m)).length = list.length + 1
            ∧ ∀ e, e ∈ applyEdit list (.add row column m) ↔
              e = { row, column, method := m, origin := .loaded } ∨ e ∈ list)
        ∧ (∀ row column : Nat, (applyEdit list (.remove row column)).Pairwise DefectEntry.Before
          ∧ ∀ e, e ∈ applyEdit list (.remove row column) ↔
            e ∈ list ∧ ¬(e.row = row ∧ e.column = column))
        ∧ applyEdit list (.clear false) = []
        ∧ (applyEdit list (.clear true)).Pairwise DefectEntry.Before
        ∧ ∀ e, e ∈ applyEdit list (.clear true) ↔ e ∈ list ∧ e.origin = .loaded)
    ∧ (∀ (u : SensorIntake) (q : BitVec 16),
        (u.survey = .idle ∨ u.survey = .armed → u.frameDone q = { u with intake := .waiting })
          ∧ ∀ threshold candidates overflow, u.survey = .collecting threshold candidates overflow →
            u.defects.Pairwise DefectEntry.Before → peakSize u.defects u.edits ≤ 512 →
            (candidates.Pairwise fun a b => a.1 < b.1 ∨ (a.1 = b.1 ∧ a.2 < b.2)) →
            (∀ c ∈ candidates, ∀ e ∈ u.defects, ¬(e.row = c.1 ∧ e.column = c.2)) →
            let v := u.frameDone q;
            let open' := candidates.filter fun c => ¬∃ e ∈ u.edits, e.names c.1 c.2 = true;
            v.defects.Pairwise DefectEntry.Before ∧ peakSize v.defects v.edits ≤ 512
              ∧ v.edits = u.edits ∧ v.intake = .waiting ∧ v.survey = .idle
              ∧ ∃ k, k ≤ open'.length
                ∧ v.lastSurvey = some
                    { added := k, overflow := overflow + (open'.length - k), sequence := q }
                ∧ v.defects.length = u.defects.length + k
                ∧ (∀ e, e ∈ v.defects ↔ e ∈ u.defects ∨ ∃ c ∈ open'.take k,
                    e = { row := c.1, column := c.2, method := .q, origin := .learned })
                ∧ (k < open'.length → peakSize v.defects v.edits = 512))

/-- DARK SURVEY (R79, R99): BUSY unless the survey is IDLE; else the survey is ARMED, and a READY
sequencer starts the SURVEY exposure at once, before any pending trigger. That the REPLY stands last is
the model's reading (notes/assumptions/9). -/
def Obligations.DarkSurveyArms : Prop :=
  ∀ (s : State) (tag : Byte), s.PlaceFree →
    let armed := ({ s with intake := { s.intake with survey := .armed } } : State);
    (s.intake.survey ≠ .idle → exec (.darkSurvey tag) s =
        .next (s.placeReply tag 11 { code := .busy, content := [] }))
      ∧ (s.intake.survey = .idle → s.position.sequencer ≠ .ready → exec (.darkSurvey tag) s =
        .next (armed.placeReply tag 11 { code := .accepted, content := [] }))
      ∧ (s.intake.survey = .idle → s.position.sequencer = .ready →
        ∃ t, exec (.darkSurvey tag) s = .next t ∧ armed.StartedExposure t .survey s.position.p
          ∧ t = { armed with position := t.position, lamps := t.lamps, guard := t.guard, link := t.link }
          ∧ (∀ i, (t.lamps.segments.get i).applied = 0)
          ∧ t.Replied tag 11 { code := .accepted, content := [] })

/-! ## Commands of the lamps, the sequencer, the odometer and reporting -/

/-- TUNE (R116, R117): each masked segment is DERATED outside NORMAL, else FAULT when DISABLED, IN
PROGRESS when TUNING, STARTED otherwise at half duty as trial 1; the rest are NOT IN MASK; the reply lists
the eight outcomes. That the REPLY stands last is the model's reading (notes/assumptions/9). -/
def Obligations.TuneStartsAtHalfDuty : Prop :=
  ∀ (s : State) (tag mask : Byte), s.PlaceFree →
    let outcome := fun (i : Fin 8) =>
      if mask.getLsbD i.val then
        if s.guard.thermal ≠ .normal then 4
        else if (s.guard.segments.get i).disabled then 3
        else if (s.lamps.segments.get i).isTuning then 2 else 1
      else 0;
    ∃ t, exec (.tune tag mask) s = .next t
      ∧ t = { s with lamps := t.lamps, link := t.link } ∧ s.link.KeptBy t.link
      ∧ t.lamps.cycle = s.lamps.cycle ∧ t.lamps.pendingCycle = s.lamps.pendingCycle
      ∧ (∀ i, t.lamps.segments.get i =
          if outcome i = 1 then
            { s.lamps.segments.get i with
              staged := 2 ^ (s.lamps.cycle - 1)
              tune := .tuning 1 (2 ^ (s.lamps.cycle - 1)) none (s.lamps.segments.get i).staged }
          else if outcome i = 3 then { s.lamps.segments.get i with verdict := .fault }
          else s.lamps.segments.get i)
      ∧ t.Replied tag 12
          { code := if s.guard.thermal ≠ .normal then .refused
              else if ∃ i, outcome i = 1 then .accepted else .done
            content := (List.finRange 8).map fun i => BitVec.ofNat 8 (outcome i) }
      ∧ ((∃ i, outcome i = 3) → t.Reported .tuneDone ∧ t.Reported .tuneError)
      ∧ ((∀ i, outcome i ≠ 3) → t.link.latches = s.link.latches)

/-- RESEED sets the mark of each masked segment (R127); ACK RESET clears the reset notice (R175); ZERO
ODOMETER brings P, L, the window start value and a held rest position to 0 (R87); CLEAR FAULTS clears the
segment latches, DISABLED marks and open counts, and the thermal latches in NORMAL, and judges the ALERT
line (R140); nothing else changes. That the summary of a REPLY shows the state after the command is the
model's reading (notes/assumptions/10). -/
def Obligations.SimpleCommandsHaveOneEffect : Prop :=
  ∀ (s : State) (tag mask : Byte), s.PlaceFree →
    exec (.reseed tag mask) s = .next
        (({ s with
            lamps := { s.lamps with
              segments := Eight.build fun i =>
                if mask.getLsbD i.val then { s.lamps.segments.get i with reseed := true }
                else s.lamps.segments.get i } } : State).placeReply tag 13
          { code := .done, content := [] })
      ∧ exec (.ackReset tag) s = .next
        (({ s with link := { s.link with resetNotice := false } } : State).placeReply tag 18
          { code := .done, content := [] })
      ∧ (1 ≤ s.params.wakeDistance → exec (.zeroOdometer tag) s = .next
        (({ s with
            position := { s.position with
              p := 0, l := 0, windowStartValue := 0
              restPosition := if s.position.restPosition = none then none else some 0 } } :
          State).placeReply tag 16 { code := .done, content := [] }))
      ∧ exec (.clearFaults tag) s = .next
        (({ s with
            guard := { s.guard with
              segments := s.guard.segments.map fun x => { x with
                openLatch := false, shortLatch := false, overLatch := false, disabled := false
                openCount := 0 }
              warn := if s.guard.thermal = .normal then false else s.guard.warn
              shut := if s.guard.thermal = .normal then false else s.guard.shut
              alert := decide (s.guard.thermal ≠ .normal
                ∧ (s.guard.thermal = .shutdown ∨ s.guard.shut = true
                  ∨ (s.guard.warn = true ∧ s.params.thermalReport = .alert))) } } :
          State).placeReply tag 17
          { code := if s.guard.thermal = .normal then .done else .refused, content := [1] })

/-- PROBE starts at once, waits for the exposure's end, or is BUSY (R141); 2 ms after its start the
strings are judged OPEN, SHORTED or CONNECTED, the probe is IDLE and PROBE DONE is latched (R142). The
clock is the model's (notes/assumptions/2). -/
def Obligations.ProbeStartsAndCompletes : Prop :=
  (∀ (s : State) (tag : Byte), s.PlaceFree →
      (s.guard.probe ≠ .idle → exec (.probe tag) s =
          .next (s.placeReply tag 14 { code := .busy, content := [] }))
        ∧ (s.guard.probe = .idle → s.position.sequencer = .exposing → exec (.probe tag) s =
          .next (({ s with guard := { s.guard with probe := .waiting } } : State).placeReply tag 14
            { code := .accepted, content := [] }))
        ∧ (s.guard.probe = .idle → s.position.sequencer ≠ .exposing → exec (.probe tag) s =
          .next (({ s with guard := { s.guard with probe := .probing, probeStart := s.now } } :
            State).placeReply tag 14 { code := .accepted, content := [] })))
    ∧ ∀ (s : State) (strings : Eight StringReading), s.guard.probe = .probing →
      s.position.sequencer ≠ .exposing →
      ∃ t, exec (.probeCompletion strings) s = .next t
        ∧ t = { s with now := t.now, guard := t.guard, link := t.link } ∧ s.link.KeptBy t.link
        ∧ t.now = max s.now (s.guard.probeStart + 96000)
        ∧ t.guard = { s.guard with probe := .idle, results := t.guard.results }
        ∧ (∀ i, t.guard.results.get i =
            if (strings.get i).current < 5000 then .opened
            else if (strings.get i).voltage < 2000 then .shorted else .connected)
        ∧ t.Reported .probeDone

/-- SNAP (R97, R98, R100) raises a SNAP trigger tagged P: READY without an ARMED survey, the exposure
starts at once; else the trigger is pending, and one already pending is lost with a TRIGGER OVERRUN. That
the REPLY stands last is the model's reading (notes/assumptions/9). -/
def Obligations.SnapStartsOrPends : Prop :=
  ∀ (s : State) (tag : Byte), s.PlaceFree →
    let pended := { s.position with pendingTrigger := some { cause := .snap, tag := s.position.p } };
    (s.position.sequencer = .ready → s.intake.survey ≠ .armed →
        ∃ t, exec (.snap tag) s = .next t ∧ s.StartedExposure t .snap s.position.p
          ∧ t = { s with position := t.position, lamps := t.lamps, guard := t.guard, link := t.link }
          ∧ t.Replied tag 15 { code := .done, content := [0] })
      ∧ (s.position.sequencer ≠ .ready ∨ s.intake.survey = .armed →
        (s.position.pendingTrigger = none → exec (.snap tag) s = .next
            (({ s with position := pended } : State).placeReply tag 15
              { code := .done, content := [1] }))
          ∧ (s.position.pendingTrigger ≠ none →
            ∃ t, exec (.snap tag) s = .next t
              ∧ t = { s with position := pended, link := t.link }
              ∧ ({ s.link with counters := { s.link.counters with
                    triggerOverruns := min 4294967295 (s.link.counters.triggerOverruns + 1) } } :
                  LinkUnit).KeptBy t.link
              ∧ t.Reported .triggerOverrun
              ∧ t.Replied tag 15 { code := .done, content := [1] }))

/-- RESTART acts on every block as R35, R57, R84, R108, R129, R145, R160 and R176 give, whether or not a
place was free: its REPLY is then the one cell of the management queue, and the events of the STATUS cells
discarded are latched again. That it is no occasion for a STATUS cell, the model's own fields, and what the
accumulators and the sense progress then hold are notes/assumptions/13, 22, 30 and 33. -/
def Obligations.RestartActsOnEveryBlock : Prop :=
  ∀ (s : State) (tag : Byte),
    ∃ t, exec (.restart tag) s = .next t
      ∧ t.pending = s.pending ∧ t.now = s.now ∧ t.freeIndex = s.freeIndex ∧ t.params = s.params
      ∧ (t.engine.run = none ∧ t.engine.nextNumber = 0 ∧ t.engine.reserved = 0
          ∧ t.engine.resetMark = true ∧ t.engine.lastFrame = s.engine.lastFrame
          ∧ t.engine.lastZones = s.engine.lastZones
          ∧ ∀ z, t.engine.accumulators.get z = { sum := 0, count := 0, fullScale := 0 })
      ∧ (∀ i, (t.slots.get i).state = .free ∧ (t.slots.get i).rows = []
          ∧ (t.slots.get i).record = none)
      ∧ t.slots.readyOrder = []
      ∧ (t.intake.defects = s.intake.defects ∧ t.intake.lastSurvey = s.intake.lastSurvey
          ∧ t.intake.edits = [] ∧ t.intake.survey = .idle)
      ∧ ((s.intake.intake = .waiting → t.intake.intake = .waiting)
          ∧ (∀ i, s.intake.intake = .filling i → t.intake.intake = .passing .abandoned)
          ∧ (∀ q, s.intake.intake = .passing (.dropped q) → t.intake.intake = .passing (.dropped none))
          ∧ (s.intake.intake = .passing .unsolicited → t.intake.intake = .passing .unsolicited)
          ∧ (s.intake.intake = .passing .abandoned → t.intake.intake = .passing .abandoned))
      ∧ (∀ b, t.views.get b =
          if (s.views.get b).state = .opened ∨ (s.views.get b).state = .checking then
            { state := .empty, header := none, mesh := [], zones := [], gains := []
              checkRaster := none }
          else s.views.get b)
      ∧ t.views.pendingView = none ∧ t.views.verdict = s.views.verdict
      ∧ t.position = { s.position with
          sequencer := .ready, current := none, outstanding := none, pendingTrigger := none
          triggerLine := false }
      ∧ (t.lamps.cycle = s.lamps.cycle ∧ t.lamps.pendingCycle = s.lamps.pendingCycle
          ∧ ∀ i,
            ((s.lamps.segments.get i).isTuning = false →
                t.lamps.segments.get i = { s.lamps.segments.get i with reseed := true })
              ∧ ∀ trial duty first preTune,
                (s.lamps.segments.get i).tune = .tuning trial duty first preTune →
                t.lamps.segments.get i =
                  { s.lamps.segments.get i with
                    staged := preTune, tune := .steady, verdict := .aborted, reseed := true })
      ∧ (t.guard = { s.guard with
            segments := t.guard.segments, probe := .idle
            results := if s.guard.probe = .probing then Eight.all .aborted else s.guard.results }
          ∧ ∀ i, t.guard.segments.get i =
            { s.guard.segments.get i with progress := 0, turnedOff := false })
      ∧ t.link = { s.link with
          ownVideo := [], management := [replyCell t tag 19 { code := .done, content := [] }]
          turn := .ownVideo, statusOwed := false, resetNotice := true, replyPlace := false
          latches := t.link.latches }
      ∧ ∀ k, t.latched k = true ↔
          s.Reported k ∨ k = .resetNotice ∨ (k = .tuneDone ∧ s.lamps.anyTuning = true)

/-! ## Cells, routing and roll call -/

/-- A COMMAND cell on the tether port (R149, R152, R153, R154): nothing while the port is DOWN
(notes/assumptions/16); a cell error with destination 0 or a used length above 64; consumed at this head's
position; consumed, then forwarded at 15 (the order is the model's, notes/assumptions/11); else forwarded:
into the down-forward queue, discarded when it is full, or answered NO SUCH HEAD at the chain's end. -/
def Obligations.CommandsAreRouted : Prop :=
  (∀ (s : State) (source dest : BitVec 4) (tag used : Byte) (payload : List Byte),
      let c : Cell := { kind := .command, source, dest, tag, used, payload };
      (s.link.tether.up = false → exec (.commandCell source dest tag used payload) s = .next s)
        ∧ (s.link.tether.up = true → 64 < used.toNat ∨ dest = 0 →
          exec (.commandCell source dest tag used payload) s = .next { s with
            link := { s.link with counters := { s.link.counters with
              tetherCellErrors := min 4294967295 (s.link.counters.tetherCellErrors + 1) } } })
        ∧ (s.link.tether.up = true → used.toNat ≤ 64 → dest ≠ 0 →
          (dest ≠ 15 → s.link.position = some dest.toNat →
              exec (.commandCell source dest tag used payload) s = .next (s.executeCell c))
            ∧ (dest = 15 → exec (.commandCell source dest tag used payload) s
                = .next ((s.executeCell c).forwardCommand c))
            ∧ (dest ≠ 15 → s.link.position ≠ some dest.toNat →
              exec (.commandCell source dest tag used payload) s = .next (s.forwardCommand c))))
    ∧ ∀ (s : State) (c : Cell),
      (s.link.chain.up = true → s.link.downForward.length < 16 →
          s.forwardCommand c = { s with
            link := { s.link with
              downForward := s.link.downForward ++ [c]
              tether := if 11 ≤ s.link.downForward.length then s.link.tether.ask true
                else if s.link.downForward.length ≤ 7 then s.link.tether.ask false
                else s.link.tether } })
        ∧ (s.link.chain.up = true → 16 ≤ s.link.downForward.length →
          s.forwardCommand c = { s with
            link := { s.link with counters := { s.link.counters with
              downForwardDiscards := min 4294967295 (s.link.counters.downForwardDiscards + 1) } } })
        ∧ (s.link.chain.up = false → c.dest = 15 → s.forwardCommand c = s)
        ∧ (s.link.chain.up = false → c.dest ≠ 15 → s.PlaceFree →
          s.forwardCommand c = s.placeReply c.tag
            (if c.used = 0 then 0 else c.payload.getD 0 0)
            { code := .noSuchHead, content := [BitVec.ofNat 8 c.dest.toNat] })
        ∧ (s.link.chain.up = false → c.dest ≠ 15 → 32 ≤ s.link.management.length →
          s.forwardCommand c = { s with
            link := { s.link with counters := { s.link.counters with
              replyDropped := min 4294967295 (s.link.counters.replyDropped + 1) } } })

/-- A consumed COMMAND cell runs the command its bytes spell (R146, R152, R167, TABLE 8-7): for every
well-formed numbered command, a cell of any used length from the least of TABLE 8-7 whose bytes agree
with its encoding, but for what the layouts ignore and what lies beyond the used length, has the effect of
the command's own row; a broadcast is then forwarded (the order is the model's, notes/assumptions/11). -/
def Obligations.CommandCellRunsItsCommand : Prop :=
  ∀ (s : State) (c : Instr) (source dest : BitVec 4) (tag used least : Byte)
    (payload bytes : List Byte),
    WellFormed c = true → encodeCommand c = some (tag, least, bytes) →
    s.link.tether.up = true → used.toNat ≤ 64 → payload.length = 64 →
    (used = least ∨ (least.toNat ≤ used.toNat ∧ bytes.getD 0 0 ≠ 4)) →
    let set := bytes.getD 0 0 = 2;
    let kept := fun (k : Nat) =>
      if set ∧ bytes.getD 1 0 ≠ 14 ∧ k = 2 then (0 : Byte)
      else if set ∧ bytes.getD 1 0 = 24 ∧ (k = 3 ∨ k = 4) then 0
      else if set ∧ bytes.getD 1 0 = 24 ∧ k = 5 then 0x7f
      else if bytes.getD 0 0 = 1 ∧ bytes.getD 1 0 = 8 ∧ bytes.getD 2 0 ≠ 14 ∧ k = 3 then 0
      else if bytes.getD 0 0 = 8 ∧ k = 3 then 0xfe
      else if bytes.getD 0 0 = 9 ∧ k = 3 then 0xf8
      else 0xff;
    (∀ k, k < least.toNat → payload.getD k 0 &&& kept k = bytes.getD k 0 &&& kept k) →
    (dest ≠ 0 → dest ≠ 15 → s.link.position = some dest.toNat →
        exec (.commandCell source dest tag used payload) s = exec c s)
      ∧ ∃ t, exec c s = .next t ∧ exec (.commandCell source 15 tag used payload) s = .next
          (t.forwardCommand { kind := .command, source, dest := 15, tag, used, payload })

/-- What decode itself answers (R167, R169, R170, TABLE 8-7): UNKNOWN COMMAND for a number of 0 or above
19, BAD VALUE for a used length that is too short, NO SUCH ITEM for an unknown item or parameter; a
broadcast is then forwarded. That the edit commands carry their sizes with BAD VALUE is read from R73
(notes/assumptions/21); the order of a broadcast is the model's (notes/assumptions/11). -/
def Obligations.DecodeAnswersMalformedCommands : Prop :=
  ∀ (s : State) (source dest : BitVec 4) (tag used : Byte) (payload : List Byte),
    s.PlaceFree → s.link.tether.up = true → dest ≠ 0 →
    dest = 15 ∨ s.link.position = some dest.toNat → used.toNat ≤ 64 → payload.length = 64 →
    let number := if used = 0 then 0 else payload.getD 0 0;
    let second := payload.getD 1 0;
    let answered := fun (code : ReplyCode) (content : List Byte) =>
      let t := s.placeReply tag number { code, content };
      exec (.commandCell source dest tag used payload) s = .next
        (if dest = 15 then
          t.forwardCommand { kind := .command, source, dest, tag, used, payload }
        else t);
    (number = 0 ∨ 19 < number.toNat → answered .unknownCommand [])
      ∧ ((number = 1 ∨ number = 5 ∨ number = 6 ∨ number = 12 ∨ number = 13) ∧ used.toNat < 2
          ∨ number = 2 ∧ used.toNat < 7 ∨ number = 3 ∧ used.toNat < 16 → answered .badValue [])
      ∧ ((number = 8 ∨ number = 9) ∧ used.toNat < 4 ∨ number = 10 ∧ used.toNat < 2 →
        answered .badValue (bigEndian 2 s.intake.projected.length
          ++ [BitVec.ofNat 8 s.intake.edits.length]))
      ∧ (number = 1 → 2 ≤ used.toNat → second = 0 ∨ 10 < second.toNat → answered .noSuchItem [])
      ∧ (number = 1 → second = 4 ∧ used.toNat = 2
          ∨ (second = 7 ∨ second = 8) ∧ (used.toNat = 2 ∨ used.toNat = 3) → answered .badValue [])
      ∧ (number = 2 → 7 ≤ used.toNat → second = 0 ∨ 24 < second.toNat → answered .noSuchItem [])

/-- A ROLL CALL on the tether port (R148, R149, R161 to R164, TABLE 8-4): nothing while the port is DOWN
(notes/assumptions/16); a cell error with a used length above 64; else, below count 4 the head takes count
+ 1 as its position and appends its presence record, passing the cell down or, at the chain's end, turning
it around; a fifth head becomes UNASSIGNED and returns it OVERLONG; with no room it is discarded and
counted, the position unchanged. That bytes beyond the records leave as zeros is the model's reading
(notes/assumptions/25), that OVERLONG is set in byte 1 whatever the used length, the byte's other bits as
received, the model's choice (notes/assumptions/35). -/
def Obligations.RollCallAssignsPositions : Prop :=
  ∀ (s : State) (source dest : BitVec 4) (tag used : Byte) (payload : List Byte),
    (s.link.tether.up = false → exec (.rollCall source dest tag used payload) s = .next s)
      ∧ (s.link.tether.up = true → 64 < used.toNat →
        exec (.rollCall source dest tag used payload) s = .next { s with
          link := { s.link with counters := { s.link.counters with
            tetherCellErrors := min 4294967295 (s.link.counters.tetherCellErrors + 1) } } })
      ∧ (s.link.tether.up = true → used.toNat ≤ 64 → s.link.replyPlace = false →
        let p := readablePayload used payload;
        let n := (p.getD 0 0).toNat;
        let grown := padPayload ([BitVec.ofNat 8 (n + 1), p.getD 1 0] ++ (p.drop 2).take (12 * n)
          ++ [BitVec.ofNat 8 (n + 1), 0x0e, 0x24, 1] ++ bigEndian 6 Config.serialNumber.toNat
          ++ [8, s.summary]);
        let turned := fun (position : Option Nat) (used : Byte) (payload : List Byte) =>
          Host.Outcome.next (φ := Fault) (ρ := Refusal) { s with
            link := { s.link with
              position
              management := s.link.management ++
                [{ kind := .rollCallReply, source := BitVec.ofNat 4 (position.getD 0), dest := 0, tag,
                   used, payload }] } };
        (n < 4 → s.link.chain.up = true → s.link.downForward.length < 16 →
            exec (.rollCall source dest tag used payload) s = .next { s with
              link := { s.link with
                position := some (n + 1)
                downForward := s.link.downForward ++
                  [{ kind := .rollCall, source, dest, tag, used := BitVec.ofNat 8 (14 + 12 * n)
                     payload := grown }]
                tether := if 11 ≤ s.link.downForward.length then s.link.tether.ask true
                  else if s.link.downForward.length ≤ 7 then s.link.tether.ask false
                  else s.link.tether } })
          ∧ (n < 4 → s.link.chain.up = true → 16 ≤ s.link.downForward.length →
            exec (.rollCall source dest tag used payload) s = .next { s with
              link := { s.link with counters := { s.link.counters with
                downForwardDiscards := min 4294967295 (s.link.counters.downForwardDiscards + 1) } } })
          ∧ (n < 4 → s.link.chain.up = false → s.link.management.length < 32 →
            exec (.rollCall source dest tag used payload) s
              = turned (some (n + 1)) (BitVec.ofNat 8 (14 + 12 * n)) grown)
          ∧ (4 ≤ n → s.link.management.length < 32 →
            exec (.rollCall source dest tag used payload) s
              = turned none used (p.set 1 (p.getD 1 0 ||| 1)))
          ∧ (4 ≤ n ∨ s.link.chain.up = false → 32 ≤ s.link.management.length →
            exec (.rollCall source dest tag used payload) s = .next { s with
              link := { s.link with counters := { s.link.counters with
                replyDropped := min 4294967295 (s.link.counters.replyDropped + 1) } } }))

/-- An upward cell on the chain port joins the up-forward queue as it arrived, with HOLD judged at 96
and 64, or is discarded and counted at 128 (R156); of another kind, or with a used length above 64, it
is a cell error (R149). A received cell that R149 discards adds one to its port's counter and changes
nothing else; one that it does not discard is taken as its kind's own row
(notes/assumptions/16). -/
def Obligations.ReceiptJudgesCells : Prop :=
  (∀ (s : State) (c : Cell),
      (s.link.chain.up = false → exec (.upwardCellReceipt c) s = .next s)
        ∧ (s.link.chain.up = true → c.used.toNat ≤ 64 → c.kind ≠ .command → c.kind ≠ .rollCall →
          (s.link.upForward.length < 128 → exec (.upwardCellReceipt c) s = .next { s with
              link := { s.link with
                upForward := s.link.upForward ++ [c]
                chain := if 95 ≤ s.link.upForward.length then s.link.chain.ask true
                  else if s.link.upForward.length ≤ 63 then s.link.chain.ask false
                  else s.link.chain } })
            ∧ (128 ≤ s.link.upForward.length → exec (.upwardCellReceipt c) s = .next { s with
              link := { s.link with counters := { s.link.counters with
                upForwardDiscards := min 4294967295 (s.link.counters.upForwardDiscards + 1) } } }))
        ∧ (s.link.chain.up = true → 64 < c.used.toNat ∨ c.kind = .command ∨ c.kind = .rollCall →
          exec (.upwardCellReceipt c) s = .next { s with
            link := { s.link with counters := { s.link.counters with
              chainCellErrors := min 4294967295 (s.link.counters.chainCellErrors + 1) } } }))
    ∧ (∀ (s : State) (bytes : List Byte),
      (s.link.tether.up = true → acceptedCell .tether bytes = none →
          exec (.cellError .tether bytes) s = .next { s with
            link := { s.link with counters := { s.link.counters with
              tetherCellErrors := min 4294967295 (s.link.counters.tetherCellErrors + 1) } } })
        ∧ (s.link.chain.up = true → acceptedCell .chain bytes = none →
          exec (.cellError .chain bytes) s = .next { s with
            link := { s.link with counters := { s.link.counters with
              chainCellErrors := min 4294967295 (s.link.counters.chainCellErrors + 1) } } })
        ∧ (s.link.tether.up = false → exec (.cellError .tether bytes) s = .next s)
        ∧ (s.link.chain.up = false → exec (.cellError .chain bytes) s = .next s))
    ∧ ∀ (s : State) (bytes : List Byte) (c : Cell),
      (acceptedCell .chain bytes = some c →
          exec (.cellError .chain bytes) s = exec (.upwardCellReceipt c) s)
        ∧ (acceptedCell .tether bytes = some c → c.kind = .command →
          exec (.cellError .tether bytes) s
            = exec (.commandCell c.source c.dest c.tag c.used c.payload) s)
        ∧ (acceptedCell .tether bytes = some c → c.kind ≠ .command →
          exec (.cellError .tether bytes) s
            = exec (.rollCall c.source c.dest c.tag c.used c.payload) s)

/-- HOLD and GO set and clear HOLD received on an UP port (R150); a port going UP sends the symbol of its
HOLD sent state; a port going DOWN clears HOLD received and counts a cell cut short (R148, R149); the
chain port going DOWN empties the down-forward queue: COMMANDs discarded and counted, ROLL CALLs turned
around while places are free (R155, R164); each change of state latches LINK. That the flush comes before
LINK is latched, and the fields sending and lastSymbol, are the model's (notes/assumptions/12 and 20), as
are the clauses that HOLD, GO and a loss on a DOWN port and PORT UP on an UP port change nothing
(notes/assumptions/3 and 16). -/
def Obligations.PortsAndSymbols : Prop :=
  (∀ (p : Port) (h : Bool), p.ask h =
      if p.holdSent = h then p
      else { p with holdSent := h, lastSymbol :=
               if p.up then some (if h then .hold else .go) else p.lastSymbol })
    ∧ (∀ (s : State) (p : PortId),
      ((s.link.port p).up = false →
          exec (.hold p) s = .next s ∧ exec (.go p) s = .next s
            ∧ exec (.portUp p) s = .next
              (({ s with link := s.link.setPort p { s.link.port p with
                    up := true, lastSymbol := some (if (s.link.port p).holdSent then .hold else .go) } } :
                State).latch [.link])
            ∧ ∀ m, exec (.portLockLoss p m) s = .next s ∧ exec (.portSymbolTimeout p m) s = .next s)
        ∧ ((s.link.port p).up = true →
          exec (.hold p) s = .next { s with
              link := s.link.setPort p { s.link.port p with holdReceived := true } }
            ∧ exec (.go p) s = .next { s with
              link := s.link.setPort p { s.link.port p with holdReceived := false } }
            ∧ exec (.portUp p) s = .next s))
    ∧ (∀ (s : State) (m : Bool), s.link.tether.up = true →
      let t := ({ s with
        link := { s.link with
          tether := { s.link.tether with
            up := false, holdReceived := false, sending := none, lastSymbol := none }
          counters := { s.link.counters with
            tetherCellErrors :=
              if m then min 4294967295 (s.link.counters.tetherCellErrors + 1)
              else s.link.counters.tetherCellErrors } } } : State);
      exec (.portLockLoss .tether m) s = .next (t.latch [.link])
        ∧ exec (.portSymbolTimeout .tether m) s = .next (t.latch [.link])
        ∧ (t.latch [.link]).Reported .link)
    ∧ ∀ (s : State) (m : Bool), s.link.chain.up = true → s.link.replyPlace = false →
      (∀ n ∈ s.link.counters.toList, n ≤ 4294967295) →
      let rolls := s.link.downForward.filter (·.kind = .rollCall);
      let free := 32 - s.link.management.length;
      let t := ({ s with
        link := { s.link with
          chain := { s.link.chain with
            up := false, holdReceived := false, sending := none, lastSymbol := none }
          tether := s.link.tether.ask false
          downForward := []
          management := s.link.management ++ (rolls.take free).map fun c =>
            { c with kind := .rollCallReply, source := BitVec.ofNat 4 (s.link.position.getD 0)
                     dest := 0 }
          counters := { s.link.counters with
            chainCellErrors :=
              if m then min 4294967295 (s.link.counters.chainCellErrors + 1)
              else s.link.counters.chainCellErrors
            downForwardDiscards := min 4294967295
              (s.link.counters.downForwardDiscards + (s.link.downForward.length - rolls.length))
            replyDropped := min 4294967295
              (s.link.counters.replyDropped + (rolls.length - free)) } } } : State);
      exec (.portLockLoss .chain m) s = .next (t.latch [.link])
        ∧ exec (.portSymbolTimeout .chain m) s = .next (t.latch [.link])
        ∧ (t.latch [.link]).Reported .link

/-- At a cell boundary of an UP port without HOLD the arbiter sends the management queue first, then the
two video queues by the turn, which passes to the queue not chosen (R157); an owed STATUS takes the place
freed (R168), a stall ends when the places required are free (R27), HOLD on the chain port is judged as
the up-forward queue falls (R156); the chain outbound port sends the down-forward queue in order (R158,
R154). A port that may not send, or has nothing to send, begins no cell. That a stall's end reserves the
places, the field sending, and that a choice out of its place begins no cell and changes nothing else are
the model's (notes/assumptions/15, 20 and 3). -/
def Obligations.PortsSendInOrder : Prop :=
  ∀ s : State,
    let tether := fun (c : Option Cell) => { s.link.tether with sending := c.map cellWire };
    let chain := fun (c : Option Cell) => { s.link.chain with sending := c.map cellWire };
    let may := fun (p : Port) => p.up = true ∧ p.holdReceived = false;
    let nothing := Host.Outcome.next (φ := Fault) (ρ := Refusal)
      ({ s with link := { s.link with tether := tether none } } : State);
    let own := fun (c : Cell) (rest : List Cell) =>
      exec .tetherArbiterChoice s = .next { s with
        link := { s.link with ownVideo := rest, turn := .upForward, tether := tether (some c) }
        engine :=
          match s.engine.run with
          | none => s.engine
          | some r =>
            if r.stalled = true ∧ rest.length + s.engine.reserved + r.places ≤ 192 then
              { s.engine with run := some { r with stalled := false }, reserved := r.places }
            else s.engine };
    let forwarded := fun (c : Cell) (rest : List Cell) =>
      exec .tetherArbiterChoice s = .next { s with
        link := { s.link with
          upForward := rest, turn := .ownVideo, tether := tether (some c)
          chain := if 96 ≤ rest.length then s.link.chain.ask true
            else if rest.length ≤ 64 then s.link.chain.ask false else s.link.chain } };
    (¬may s.link.tether → exec .tetherArbiterChoice s = nothing)
      ∧ (may s.link.tether →
        (∀ c rest, s.link.management = c :: rest →
            (s.link.statusOwed = false → exec .tetherArbiterChoice s = .next { s with
                link := { s.link with management := rest, tether := tether (some c) } })
              ∧ (s.link.statusOwed = true → exec .tetherArbiterChoice s = .next { s with
                link := { s.link with
                  management := rest ++
                    [createCell s.link .status 0 (statusContent s s.link.latches)]
                  tether := tether (some c), statusOwed := false, latches := 0 } }))
          ∧ (s.link.management = [] →
            (∀ c rest, s.link.ownVideo = c :: rest →
                s.link.turn = .ownVideo ∨ s.link.upForward = [] → own c rest)
              ∧ (∀ c rest, s.link.upForward = c :: rest →
                s.link.turn = .upForward ∨ s.link.ownVideo = [] → forwarded c rest)
              ∧ (s.link.ownVideo = [] → s.link.upForward = [] →
                exec .tetherArbiterChoice s = nothing)))
      ∧ (¬may s.link.chain ∨ s.link.downForward = [] → exec .chainOutboundSend s =
        .next { s with link := { s.link with chain := chain none } })
      ∧ ∀ c rest, may s.link.chain → s.link.downForward = c :: rest →
        exec .chainOutboundSend s = .next { s with
          link := { s.link with
            downForward := rest, chain := chain (some c)
            tether := if 12 ≤ rest.length then s.link.tether.ask true
              else if rest.length ≤ 8 then s.link.tether.ask false else s.link.tether } }

/-- Latching and STATUS cells (R168, R172, R173, R174, TABLE 8-6): a latched event calls for a STATUS
cell only while the engine is IDLE, under the occasions of ON EVENT, when the mask enables it; the cell
is merged into the one that waits, left to the one owed, queued with the latches it clears, or owed; the
occasion of a FRAME END is in FrameEndHandsOver. That an event whose latch is already set makes an occasion
too is the model's choice (notes/assumptions/32). That a place held for a REPLY counts as occupied, so that
with one held and 31 cells standing the STATUS is owed, is the model's reading, beyond R168's words
(notes/assumptions/9). That the bits TABLE 8-6 leaves undefined are 0 is the model's choice
(notes/assumptions/36). -/
def Obligations.StatusCellsReportEvents : Prop :=
  (∀ (s : State) (k : EventKind),
      let latched := ({ s with link := { s.link with
        latches := s.link.latches ||| BitVec.ofNat 15 (2 ^ k.index) } } : State);
      let onEvent := s.effectiveMode = .onEvent
        ∨ (s.effectiveMode = .whileTravelling ∧ s.position.mode ≠ .travel);
      (s.latch [k]).Reported k
        ∧ (s.engine.run = none ∧ onEvent ∧ s.params.eventMask.getLsbD k.index = true →
          s.latch [k] = { latched with link := statusOccasion latched })
        ∧ (¬(s.engine.run = none ∧ onEvent ∧ s.params.eventMask.getLsbD k.index = true) →
          s.latch [k] = latched))
    ∧ (∀ s : State,
      s.effectiveMode = if s.link.resetNotice = true then .everyFrame else s.params.reportMode)
    ∧ (∀ s : State,
      let waits := ∃ c ∈ s.link.management, c.kind = .status;
      (waits → ∃ cells, statusOccasion s = { s.link with management := cells, latches := 0 }
          ∧ cells.length = s.link.management.length
          ∧ ∀ j : Nat, ∀ c, s.link.management[j]? = some c →
            (c.kind ≠ .status → cells[j]? = some c)
              ∧ (c.kind = .status → ∃ d, cells[j]? = some d
                ∧ d = { c with payload := d.payload }
                ∧ carriedLatches d = carriedLatches c ||| s.link.latches
                ∧ d.payload = padPayload (statusContent s (carriedLatches d))))
        ∧ (¬waits → s.link.statusOwed = true → statusOccasion s = s.link)
        ∧ (¬waits → s.link.statusOwed = false →
          s.link.management.length + (if s.link.replyPlace then 1 else 0) < 32 →
          statusOccasion s = { s.link with
            management := s.link.management ++
              [{ kind := .status, source := BitVec.ofNat 4 (s.link.position.getD 0), dest := 0
                 tag := 0, used := 30, payload := padPayload (statusContent s s.link.latches) }]
            latches := 0 })
        ∧ (¬waits → s.link.statusOwed = false →
          32 ≤ s.link.management.length + (if s.link.replyPlace then 1 else 0) →
          statusOccasion s = { s.link with statusOwed := true }))
    ∧ ∀ (s : State) (l : BitVec 15),
      let b := statusContent s l;
      b.length = 30 ∧ b[0]? = some (BitVec.ofNat 8 (thermalCode s.guard.thermal))
        ∧ b[1]? = some (BitVec.ofNat 8 (s.guard.temperature + 40).toNat)
        ∧ b[2]? = some (BitVec.ofNat 8 (modeCode s.position.mode))
        ∧ (b.drop 3).take 4 = bigEndian 4 (BitVec.ofInt 32 s.position.p).toNat
        ∧ b[7]? = some (BitVec.ofNat 8 (reportModeCode s.effectiveMode))
        ∧ (∀ i : Fin 8, ∃ x : Byte, b[8 + 2 * i.val]? = some x
            ∧ x.getLsbD 0 = (s.guard.segments.get i).openLatch
            ∧ x.getLsbD 1 = (s.guard.segments.get i).shortLatch
            ∧ x.getLsbD 2 = (s.guard.segments.get i).overLatch
            ∧ x.getLsbD 3 = (s.guard.segments.get i).disabled
            ∧ (x.extractLsb' 4 4).toNat = tuneCode (s.lamps.segments.get i).tune
            ∧ b[9 + 2 * i.val]? =
              some (BitVec.ofNat 8 (tuneVerdictCode (s.lamps.segments.get i).verdict)))
        ∧ b[24]? = some (BitVec.ofNat 8 (bankStateCode s.views.bank0.state))
        ∧ b[25]? = some (BitVec.ofNat 8 (bankStateCode s.views.bank1.state))
        ∧ (∃ x : Byte, b[26]? = some x
            ∧ (x.extractLsb' 0 4).toNat = viewCode s.views.inForce
            ∧ (x.extractLsb' 4 4).toNat =
              match s.views.pendingView with
              | none => 0
              | some v => viewCode v + 1)
        ∧ (b.drop 27).take 2 = bigEndian 2 l.toNat
        ∧ ∃ x : Byte, b[29]? = some x ∧ x.getLsbD 0 = s.guard.warn ∧ x.getLsbD 1 = s.guard.shut
          ∧ x.extractLsb' 2 6 = 0

/-! ## Frames from the sensor -/

/-- FRAME BEGIN (R61, R62, R63, R64, R77, R80): a frame in progress is ended first; the queued edits are
applied; the frame claims the lowest-numbered FREE slot with the outstanding record, is DROPPED when no
slot is FREE, or is UNSOLICITED when no record is outstanding. -/
def Obligations.FrameBeginClaimsDropsOrPasses : Prop :=
  (∀ s : State, ∃ u, exec .frameEnd s = .next u ∧ u.intake.intake = .waiting
      ∧ exec .frameBegin s = exec .frameBegin u)
    ∧ ∀ s : State, s.intake.intake = .waiting →
      let list := applyEdits s.intake.defects s.intake.edits;
      let rank := fun (i : SlotId) => match i with | .slot0 => 0 | .slot1 => 1 | .slot2 => 2
      let begun := fun (sequence : BitVec 16) (slot : Option SlotId) =>
        { s.position with
          outstanding := none
          current := s.position.current.map fun (e : CurrentExposure) =>
            if e.sequence = sequence then
              { e with recordState := .readingOut, endedAt := none, begunAt := some s.now, slot }
            else e };
      (s.position.outstanding = none →
          ∃ t, exec .frameBegin s = .next t
            ∧ t = { s with
                intake := { s.intake with intake := .passing .unsolicited, defects := list, edits := [] }
                link := t.link }
            ∧ ({ s.link with counters := { s.link.counters with
                  unsolicitedFrames := min 4294967295 (s.link.counters.unsolicitedFrames + 1) } } :
                LinkUnit).KeptBy t.link
            ∧ t.Reported .unsolicitedFrame)
        ∧ ∀ r, s.position.outstanding = some r →
          ((∀ i, (s.slots.get i).state ≠ .free) →
              ∃ t, exec .frameBegin s = .next t
                ∧ t = { s with
                    intake := { s.intake with
                      intake := .passing (.dropped (some r.sequence)), defects := list, edits := [] }
                    position := { begun r.sequence none with
                      skipTally := min 255 (s.position.skipTally + 1) }
                    link := t.link }
                ∧ ({ s.link with counters := { s.link.counters with
                      sourceSkipped := min 4294967295 (s.link.counters.sourceSkipped + 1) } } :
                    LinkUnit).KeptBy t.link
                ∧ t.Reported .sourceSkipped)
            ∧ ∀ i, (s.slots.get i).state = .free →
              (∀ j, rank j < rank i → (s.slots.get j).state ≠ .free) →
              exec .frameBegin s = .next { s with
                intake := { s.intake with
                  intake := .filling i, defects := list, edits := []
                  survey := if r.cause = .survey ∧ s.intake.survey = .armed then
                      .collecting s.params.darkThreshold [] 0
                    else s.intake.survey }
                slots := s.slots.set i
                  { state := .filling, ws := s.params.sourceWidth, hs := s.params.sourceHeight
                    black := s.params.blackLevel, rows := []
                    record := some { r with skippedBefore := s.position.skipTally } }
                position := { begun r.sequence (some i) with skipTally := 0 } }

/-- LINE (R64, R65, R68, R80): while FILLING a line of at least one pixel is the next row, black
subtracted, cut or padded to the raster's width and counted as adjusted when its length differs; beyond
the last row it is ignored and counted; an empty line, or one while WAITING or PASSING, is ignored. That
an empty line is not counted as adjusted is the model's reading (notes/assumptions/27). -/
def Obligations.LinesFillTheRaster : Prop :=
  ∀ (s : State) (pixels : List (BitVec 12)),
    let adjusted := ({ s.link with counters := { s.link.counters with
      sourceLinesAdjusted := min 4294967295 (s.link.counters.sourceLinesAdjusted + 1) } } : LinkUnit);
    ((∀ i, s.intake.intake ≠ .filling i) ∨ pixels = [] → exec (.line pixels) s = .next s)
      ∧ ∀ i, s.intake.intake = .filling i → pixels ≠ [] →
        let slot := s.slots.get i;
        let n := pixels.length;
        let v := fun (column : Nat) => (pixels.getD column 0).toNat - slot.black;
        (slot.hs ≤ slot.rows.length → exec (.line pixels) s = .next { s with link := adjusted })
          ∧ (slot.rows.length < slot.hs →
            let row : SlotRow :=
              { pixels := (List.range slot.ws).map fun column => v (min column (n - 1))
                received := min n slot.ws };
            let found := ((List.range (min n slot.ws)).filter fun column =>
                ¬∃ e ∈ s.intake.defects, e.row = slot.rows.length ∧ e.column = column).map
              fun column => (slot.rows.length, column);
            exec (.line pixels) s = .next { s with
              slots := s.slots.set i { slot with rows := slot.rows ++ [row] }
              intake := { s.intake with
                survey := match s.intake.survey with
                  | .idle => .idle
                  | .armed => .armed
                  | .collecting threshold kept overflow =>
                    let all := kept ++ found.filter fun c => threshold < v c.2
                    .collecting threshold (all.take 512) (overflow + (all.length - 512)) }
              link := if n = slot.ws then s.link else adjusted })

/-- FRAME END (R62, R64, R66, R67): a filled frame has its missing rows copied, its defects repaired, its
counts and SHORT written, becomes READY last in order, merges a collecting survey and is reported; a frame
with no lines frees its slot, gives the tally back with one more, and is reported as a drop, and a
survey it leaves ARMED is taken up at once by a READY sequencer (R82, R99); a DROPPED
frame is reported at its end, any other that passes is not. That events are latched after the state
changes is the model's reading (notes/assumptions/12). -/
def Obligations.FrameEndCompletesTheFrame : Prop :=
  ∀ s : State,
    let ended := fun (u : State) (sequence : BitVec 16) =>
      Host.Outcome.next (φ := Fault) (ρ := Refusal) (u.reportEnd sequence);
    (s.intake.intake = .waiting → exec .frameEnd s = .next s)
      ∧ (∀ kind, s.intake.intake = .passing kind →
        let t := ({ s with intake := { s.intake with intake := .waiting } } : State);
        (∀ q, kind = .dropped (some q) → exec .frameEnd s = ended t q)
          ∧ ((∀ q, kind ≠ .dropped (some q)) → exec .frameEnd s = .next t))
      ∧ ∀ i r, s.intake.intake = .filling i → (s.slots.get i).record = some r →
        let slot := s.slots.get i;
        (slot.rows = [] →
            let u := (({ s with
              slots := s.slots.set i
                { state := .free, ws := 0, hs := 0, black := 0, rows := [], record := none }
              intake := { s.intake with
                intake := .waiting
                survey := match s.intake.survey with
                  | .collecting .. => .armed
                  | .armed => .armed
                  | .idle => .idle }
              position := { s.position with skipTally := min 255 (r.skippedBefore + 1) }
              link := { s.link with counters := { s.link.counters with
                sourceSkipped := min 4294967295 (s.link.counters.sourceSkipped + 1) } } } :
              State).latch [.sourceSkipped]).reportEnd r.sequence;
            let again := u.intake.survey = .armed ∧ s.intake.survey ≠ .armed
              ∧ u.position.sequencer = .ready;
            (¬again → exec .frameEnd s = .next u)
              ∧ (again → ∃ t, exec .frameEnd s = .next t ∧ u.StartedExposure t .survey u.position.p
                ∧ t = { u with
                    position := t.position, lamps := t.lamps, guard := t.guard, link := t.link }))
          ∧ ∀ last, slot.rows.getLast? = some last →
            let full := { slot with
              rows := slot.rows ++
                List.replicate (slot.hs - slot.rows.length) { last with received := 0 } };
            let list := s.intake.defects;
            exec .frameEnd s = ended
              (({ s with
                slots := { s.slots.set i
                    { full with
                      state := .ready, rows := repairedRows list full
                      record := some { r with
                        short := decide (slot.rows.length < slot.hs)
                        repaired := (repairedPixels list full).length
                        unrepaired := (listedPixels list full).length
                          - (repairedPixels list full).length } } with
                  readyOrder := s.slots.readyOrder ++ [i] }
                intake := s.intake.frameDone r.sequence } : State).latch
                (match s.intake.survey with
                  | .collecting .. => [.surveyDone]
                  | .armed => []
                  | .idle => [])) r.sequence

/-- Triggers, reports and the next exposure (R97, R98, R99, R103): a trigger starts an exposure or takes
the pending place, with an overrun when it replaces one; a report of a frame's end acts only on the
current exposure; a READY sequencer takes the survey's exposure first, then the pending trigger. -/
def Obligations.SequencerTakesExposuresInTurn : Prop :=
  (∀ (s : State) (cause : Cause) (tag : Int),
      let t := s.raiseTrigger cause tag;
      let pended := { s.position with pendingTrigger := some { cause, tag } };
      (s.position.sequencer = .ready → s.intake.survey ≠ .armed → s.StartedExposure t cause tag
          ∧ t = { s with position := t.position, lamps := t.lamps, guard := t.guard, link := t.link })
        ∧ (s.position.sequencer ≠ .ready ∨ s.intake.survey = .armed →
          (s.position.pendingTrigger = none → t = { s with position := pended })
            ∧ (s.position.pendingTrigger ≠ none → t = ({ s with
                position := pended
                link := { s.link with counters := { s.link.counters with
                  triggerOverruns := min 4294967295 (s.link.counters.triggerOverruns + 1) } } } :
              State).latch [.triggerOverrun])))
    ∧ (∀ (s : State) (q : BitVec 16),
      ((∀ e, s.position.current = some e → e.sequence ≠ q) → s.reportEnd q = s)
        ∧ ∀ e, s.position.current = some e → e.sequence = q →
          let closed := ({ s with
            position := { s.position with current := some { e with recordState := .closed } } } : State);
          s.reportEnd q =
            if s.position.sequencer = .awaitingFrame then closed.becomeReady else closed)
    ∧ ∀ s : State,
      let ready := { s.position with sequencer := .ready };
      let t := s.becomeReady;
      let framed :=
        t = { s with position := t.position, lamps := t.lamps, guard := t.guard, link := t.link };
      (s.intake.survey = .armed → framed
          ∧ ({ s with position := ready } : State).StartedExposure t .survey s.position.p)
        ∧ (∀ g, s.intake.survey ≠ .armed → s.position.pendingTrigger = some g → framed
          ∧ ({ s with position := { ready with pendingTrigger := none } } : State).StartedExposure t
              g.cause g.tag)
        ∧ (s.intake.survey ≠ .armed → s.position.pendingTrigger = none →
          t = { s with position := ready })

/-- Defect substitution (R71, R72): every listed pixel of a whole raster takes the rounded mean of its
usable neighbours before substitution, or keeps its value when it has none; no other pixel changes; the
pixels repaired are the listed ones with a usable neighbour. -/
def Obligations.DefectsAreRepairedFromNeighbours : Prop :=
  ∀ (list : List DefectEntry) (slot : Slot), list.Pairwise DefectEntry.Before →
    slot.rows.length = slot.hs → (∀ r ∈ slot.rows, r.pixels.length = slot.ws) →
    let out := { slot with rows := repairedRows list slot };
    let usable := fun (e : DefectEntry) =>
      ((if e.method = .v then []
          else (if e.column = 0 then [] else [(e.row, e.column - 1)]) ++ [(e.row, e.column + 1)])
        ++ (if e.method = .h then []
          else (if e.row = 0 then [] else [(e.row - 1, e.column)]) ++ [(e.row + 1, e.column)])).filter
        fun n => n.1 < slot.hs ∧ n.2 < slot.ws ∧ ¬∃ x ∈ list, x.row = n.1 ∧ x.column = n.2;
    out.rows.length = slot.hs ∧ (∀ r ∈ out.rows, r.pixels.length = slot.ws)
      ∧ (∀ row column, row < slot.hs → column < slot.ws →
        (∀ e ∈ list, ¬(e.row = row ∧ e.column = column)) →
        out.pixel column row = slot.pixel column row)
      ∧ (∀ e ∈ list, e.row < slot.hs → e.column < slot.ws →
        let near := (usable e).map fun n => slot.pixel n.2 n.1;
        out.pixel e.column e.row =
          if near = [] then slot.pixel e.column e.row
          else (near.sum + near.length / 2) / near.length)
      ∧ repairedPixels list slot =
        list.filter fun e => e.row < slot.hs ∧ e.column < slot.ws ∧ usable e ≠ []

/-! ## The Warp Engine -/

/-- The pending view change taken up at a frame start (R23): a named bank becomes ACTIVE and the one that
was ACTIVE becomes VALID; the raw view leaves no bank ACTIVE. An abort restores each TUNING segment's
pre-tune duty with verdict ABORTED (R123). WARP FRAME START (R22 to R26, R30): the earliest READY slot
becomes WARPING; the change is taken up, with BANK SWAPPED, and aborts every tune unless both views are
banks of the same size with the same zone in every cell; the frame takes its number and its FRAME START
cell is built, the accumulators and the reset mark cleared. That its events are latched while RUNNING is
the model's reading (notes/assumptions/13), that bits 15..7 of the flags are 0 its choice
(notes/assumptions/36). -/
def Obligations.FrameStartTakesSlotAndView : Prop :=
  ((∀ v : ViewBankStore,
        (v.pendingView = none → v.takeUp = v)
          ∧ (∀ b, v.pendingView = some (.bank b) → v.takeUp.pendingView = none
            ∧ v.takeUp.verdict = v.verdict
            ∧ ∀ k, v.takeUp.get k =
              if k = b then { v.get k with state := .active }
              else if (v.get k).state = .active then { v.get k with state := .valid } else v.get k)
          ∧ (v.pendingView = some .raw → v.takeUp.pendingView = none ∧ v.takeUp.verdict = v.verdict
            ∧ ∀ k, v.takeUp.get k =
              if (v.get k).state = .active then { v.get k with state := .valid } else v.get k)
          ∧ (∀ b, v.pendingView = some (.bank b) → v.takeUp.inForce = .bank b)
          ∧ (v.pendingView = some .raw → v.takeUp.inForce = .raw))
      ∧ ∀ (u : IlluminationUnit), u.abortTunes.cycle = u.cycle ∧ u.abortTunes.pendingCycle = u.pendingCycle
        ∧ ∀ i, (∀ trial duty first preTune,
              (u.segments.get i).tune = .tuning trial duty first preTune →
              u.abortTunes.segments.get i =
                { u.segments.get i with staged := preTune, tune := .steady, verdict := .aborted })
          ∧ ((u.segments.get i).isTuning = false → u.abortTunes.segments.get i = u.segments.get i))
    ∧ (∀ (s : State) (i : SlotId) (rest : List SlotId) (r : FrameRecord) (view : View) (wo ho : Nat),
        s.BanksSound → s.engine.run = none → s.slots.readyOrder = i :: rest →
        (s.slots.get i).record = some r →
        let v := s.views.takeUp;
        v.inForce = view →
        (match view with
          | .raw => wo = min (s.slots.get i).ws 1024 ∧ ho = (s.slots.get i).hs
          | .bank b => ∃ h, (v.get b).header = some h ∧ wo = h.wo ∧ ho = h.ho) →
        let swapped := match s.views.pendingView with
          | none => false
          | some (.bank _) => true
          | some .raw => decide (s.views.inForce ≠ .raw);
        let sameZones := ∃ old new h h', s.views.inForce = .bank old ∧ view = .bank new
          ∧ (s.views.get old).header = some h ∧ (v.get new).header = some h'
          ∧ h.wo = h'.wo ∧ h.ho = h'.ho
          ∧ ∀ c, c < h.wo / 16 * (h.ho / 16) → (s.views.get old).zone c = (v.get new).zone c;
        let zonesChange := swapped = true ∧ ¬sameZones;
        let flags := (if r.markers.any Option.isSome then 1 else 0) + (if r.dark then 2 else 0)
          + (if r.derated then 4 else 0) + (if r.shutdown then 8 else 0) + (if r.ledFault then 16 else 0)
          + (if r.short then 32 else 0) + (if s.engine.resetMark then 64 else 0);
        let bytes := halfBytes s.engine.nextNumber
          ++ [BitVec.ofNat 8 (causeCode r.cause), BitVec.ofNat 8 (modeCode r.mode)]
          ++ signedBytes r.tag ++ signedBytes r.position ++ bigEndian 2 r.eEff ++ bigEndian 2 r.gx
          ++ [BitVec.ofNat 8 (viewCode view)] ++ bigEndian 2 flags ++ [BitVec.ofNat 8 r.skippedBefore]
          ++ bigEndian 2 wo ++ bigEndian 2 ho ++ r.applied.toList.flatMap (bigEndian 2)
          ++ [BitVec.ofNat 8 (s.guard.temperature + 40).toNat];
        ∃ t, exec .warpFrameStart s = .next t
          ∧ t = { s with
              slots := { s.slots.set i { s.slots.get i with state := .warping } with readyOrder := rest }
              views := v
              engine := { s.engine with
                run := some
                  { stalled := false, slot := i, view, number := s.engine.nextNumber, wo, ho
                    next := .frameStart
                      { kind := .frameStart, source := BitVec.ofNat 4 (s.link.position.getD 0), dest := 0
                        tag := 0, used := 41, payload := padPayload bytes } }
                nextNumber := s.engine.nextNumber + 1
                accumulators := Eight.all { sum := 0, count := 0, fullScale := 0 }
                resetMark := false }
              lamps := t.lamps, link := t.link }
          ∧ (zonesChange → t.lamps = s.lamps.abortTunes) ∧ (¬zonesChange → t.lamps = s.lamps)
          ∧ s.link.KeptBy t.link
          ∧ (swapped = true → t.Reported .bankSwapped)
          ∧ (zonesChange → s.lamps.anyTuning = true → t.Reported .tuneDone)
          ∧ (swapped = false → t.link = s.link))

/-- ITEM PRODUCTION (R27, R28, R30): the FRAME START or the next row is produced whole once its places are
reserved or free, else the engine is STALLED; a row is that of the frame's own slot, view and Gx, columns
0..Wo-1 (R7); its counted pixels go to the accumulators of their zones; after the last row the FRAME END
is next, and that is another row's event: that ITEM PRODUCTION, out of its place, then changes nothing is
the model's choice (notes/assumptions/3). That an item is produced whole in one event is the model's reading
(notes/assumptions/15). -/
def Obligations.ItemsWaitForRoom : Prop :=
  ∀ (s : State) (r : Run), s.engine.run = some r →
    let need := match r.next with
      | .frameStart _ => 1
      | .row _ => (r.wo + 47) / 48
      | .frameEnd => 1;
    let room := s.engine.reserved = need ∨ s.link.ownVideo.length + s.engine.reserved + need ≤ 192;
    (r.next = .frameEnd → exec .itemProduction s = .next s)
      ∧ (r.next ≠ .frameEnd → ¬room → exec .itemProduction s = .next { s with
          engine := { s.engine with run := some { r with stalled := true } } })
      ∧ (∀ cell, r.next = .frameStart cell → room → exec .itemProduction s = .next { s with
          link := { s.link with ownVideo := s.link.ownVideo ++ [cell] }
          engine := { s.engine with
            run := some { r with stalled := false, next := .row 0 }, reserved := 0 } })
      ∧ ∀ (y : Nat) (record : FrameRecord) (pixel : Nat → OutputPixel),
        r.next = .row y → room → (s.slots.get r.slot).record = some record →
        (r.view = .raw ∧ (∀ x, pixel x = rawPixel (s.slots.get r.slot) record.gx x y)
          ∨ ∃ b h, r.view = .bank b ∧ (s.views.get b).header = some h
            ∧ ∀ x, pixel x = bankPixel (s.views.get b) h (s.slots.get r.slot) record.gx x y) →
        let pixels := (List.range r.wo).map pixel;
        ∃ acc : Eight ZoneAccumulator,
          exec .itemProduction s = .next { s with
            link := { s.link with
              ownVideo := s.link.ownVideo
                ++ rowCells s.link r.number y (pixels.map OutputPixel.value) }
            engine := { s.engine with
              run := some { r with
                stalled := false, next := if y + 1 < r.ho then .row (y + 1) else .frameEnd }
              accumulators := acc, reserved := 0 } }
          ∧ ∀ z,
            let mine := pixels.filter fun p => p.counted = some z;
            acc.get z =
              { sum := (s.engine.accumulators.get z).sum + (mine.map OutputPixel.value).sum
                count := (s.engine.accumulators.get z).count + mine.length
                fullScale := (s.engine.accumulators.get z).fullScale
                  + (mine.filter fun p => p.value = 1023).length }

/-- The ROW cells of a row (R28, TABLE 8-5): ceil(Wo/48) cells in ascending segment index, cell k holding
columns 48k onward as 10-bit pixels packed most significant bit first. -/
def Obligations.RowCellsCarryThePixels : Prop :=
  ∀ (l : LinkUnit) (number : BitVec 16) (row : Nat) (values : List Nat),
    values.length % 16 = 0 → (∀ v ∈ values, v < 1024) →
    let cells := rowCells l number row values;
    cells.length = (values.length + 47) / 48
      ∧ ∀ k, k < cells.length → ∃ c, cells[k]? = some c
        ∧ c.kind = .row ∧ c.source = BitVec.ofNat 4 (l.position.getD 0) ∧ c.dest = 0 ∧ c.tag = 0
        ∧ c.payload.length = 64
        ∧ c.payload.take 4 =
          [number.extractLsb' 0 8, BitVec.ofNat 8 (row / 256), BitVec.ofNat 8 row, BitVec.ofNat 8 k]
        ∧ let n := min 48 (values.length - 48 * k);
          c.used.toNat = 4 + n * 5 / 4
            ∧ (∀ j, j < n → values[48 * k + j]? = some
              (fromBigEndian ((c.payload.drop (4 + j / 4 * 5)).take 5) / 2 ^ (30 - 10 * (j % 4)) % 1024))
            ∧ ∀ m, c.used.toNat ≤ m → m < 64 → c.payload[m]? = some 0

/-- WARP FRAME END (R27, R31, R32, R33): once its place is free the FRAME END is placed with the eight
zone results, the slot is freed, record and results are handed to the Illumination Unit, the last zone
results replaced and the engine IDLE. The events of the hand-over are latched first; then the FRAME END is
an occasion for a STATUS cell under EVERY FRAME, and under ON EVENT or outside TRAVEL while an enabled
latch is set, else none (R174; what an occasion does is in StatusCellsReportEvents). That the accumulators
keep the frame's sums, and that bits 13..10 of each zone result are 0, are the model's choices
(notes/assumptions/30 and 36). -/
def Obligations.FrameEndHandsOver : Prop :=
  ∀ (s : State) (r : Run) (record : FrameRecord), s.engine.run = some r → r.next = .frameEnd →
    (s.slots.get r.slot).record = some record →
    let room := s.engine.reserved = 1 ∨ s.link.ownVideo.length + s.engine.reserved + 1 ≤ 192;
    let zones := s.engine.accumulators.map fun a =>
      if a.count = 0 then
        ({ mean := 0, count := 0, unseen := true, glare := false } : ZoneResult)
      else { mean := a.sum / a.count, count := a.count, unseen := false
             glare := decide (a.count / 8 < a.fullScale) };
    let bytes := halfBytes r.number
      ++ zones.toList.flatMap (fun z => bigEndian 2
        (z.mean + (if z.unseen then 16384 else 0) + (if z.glare then 32768 else 0)))
      ++ bigEndian 2 record.unrepaired ++ bigEndian 2 record.repaired;
    let outcomes := s.handOverOutcomes record zones;
    (¬room → exec .warpFrameEnd s = .next { s with
        engine := { s.engine with run := some { r with stalled := true } } })
      ∧ (room →
        let latches := s.link.latches
          ||| (if ∃ i, (outcomes.get i).tuneDone = true then 0x20 else 0)
          ||| (if ∃ i, (outcomes.get i).tuneError = true then 0x40 else 0);
        let handed := ({ s with
          slots := s.slots.set r.slot
            { state := .free, ws := 0, hs := 0, black := 0, rows := [], record := none }
          engine := { s.engine with
            run := none, reserved := 0, lastFrame := some r.number, lastZones := zones }
          lamps := { s.lamps with segments := outcomes.map SegmentOutcome.drive }
          link := { s.link with
            ownVideo := s.link.ownVideo ++
              [{ kind := .frameEnd, source := BitVec.ofNat 4 (s.link.position.getD 0), dest := 0
                 tag := 0, used := 22, payload := padPayload bytes }]
            latches } } : State);
        let everyFrame := s.effectiveMode = .everyFrame
          ∨ (s.effectiveMode = .whileTravelling ∧ s.position.mode = .travel);
        ∃ t, exec .warpFrameEnd s = .next t
          ∧ (everyFrame ∨ latches &&& s.params.eventMask ≠ 0 →
            t = { handed with link := statusOccasion handed }
              ∧ (t.link.statusOwed = true ∨ ∃ c ∈ t.link.management, c.kind = .status))
          ∧ (¬everyFrame → latches &&& s.params.eventMask = 0 → t = handed)
          ∧ ((∃ i, (outcomes.get i).tuneDone = true) → t.Reported .tuneDone)
          ∧ ((∃ i, (outcomes.get i).tuneError = true) → t.Reported .tuneError))

/-! ## Arithmetic -/

/-- Output pixels (R8 to R13, R15, R16, R17, R19): FILL where a corner of the mesh cell is VOID, else the
bilinear sample at the interpolated coordinate, times the interpolated gain and the compensation,
rounded and held at 1023; counted in the cell's zone unless FILL; in the raw view the scaled pixel. -/
def Obligations.OutputPixelsAreCorrected : Prop :=
  (∀ (k : Bank) (h : Header) (slot : Slot) (gx x y : Nat),
      let node := fun (i j : Nat) => k.node (j * (h.wo / 16 + 1) + i);
      let gain := fun (m n : Nat) => k.gain (n * (h.wo / 64 + 1) + m);
      let cx := x / 16;
      let cy := y / 16;
      let mean := fun (size wx wy : Nat) (a b c d : Nat) =>
        ((size - wx) * (size - wy) * a + wx * (size - wy) * b + (size - wx) * wy * c + wx * wy * d
          + size * size / 2) / (size * size);
      let across := fun (f : MeshNode → Nat) => mean 16 (x % 16) (y % 16) (f (node cx cy))
        (f (node (cx + 1) cy)) (f (node cx (cy + 1))) (f (node (cx + 1) (cy + 1)));
      let split := fun (size c : Nat) => if size - 1 < c / 16 then (size - 1, 0) else (c / 16, c % 16);
      let col := split slot.ws (across MeshNode.sx);
      let row := split slot.hs (across MeshNode.sy);
      let read := fun (c r : Nat) => slot.pixel (min c (slot.ws - 1)) (min r (slot.hs - 1));
      let sample := mean 16 col.2 row.2 (read col.1 row.1) (read (col.1 + 1) row.1)
        (read col.1 (row.1 + 1)) (read (col.1 + 1) (row.1 + 1));
      let g := mean 64 (x % 64) (y % 64) (gain (x / 64) (y / 64)) (gain (x / 64 + 1) (y / 64))
        (gain (x / 64) (y / 64 + 1)) (gain (x / 64 + 1) (y / 64 + 1));
      bankPixel k h slot gx x y =
        if (node cx cy).isVoid = true ∨ (node (cx + 1) cy).isVoid = true
            ∨ (node cx (cy + 1)).isVoid = true ∨ (node (cx + 1) (cy + 1)).isVoid = true then
          { value := h.fill, counted := none }
        else
          { value := min 1023 ((sample * g * gx + 524288) / 1048576)
            counted := k.zone (cy * (h.wo / 16) + cx) })
    ∧ (∀ (slot : Slot) (gx x y : Nat), rawPixel slot gx x y =
      { value := min 1023 ((slot.pixel x y * gx + 512) / 1024), counted := none })
    ∧ ∀ size wx wy a b c d lo hi : Nat, 0 < size → wx ≤ size → wy ≤ size →
      lo ≤ a → lo ≤ b → lo ≤ c → lo ≤ d → a ≤ hi → b ≤ hi → c ≤ hi → d ≤ hi →
      lo ≤ cornerMean size wx wy a b c d ∧ cornerMean size wx wy a b c d ≤ hi

/-- The effective exposure E_eff is E_set, or with a blur limit and a speed above 0 the lesser of E_set
and max(50, floor(BLUR LIMIT × 1,000,000 / v)) (R105); the compensation Gx is
min(1024, floor(E_set × 256 / E_eff)), 256..1024 (R106). -/
def Obligations.ExposureIsCutAndCompensated : Prop :=
  ∀ s : State, 50 ≤ s.params.exposure → s.params.exposure ≤ 20000 →
    s.eEff = (if s.params.blurLimit = 0 ∨ s.position.speed = 0 then s.params.exposure
        else min s.params.exposure
          (max 50 (s.params.blurLimit * 1000000 / s.position.speed)))
      ∧ 50 ≤ s.eEff ∧ s.eEff ≤ s.params.exposure
      ∧ compensation s.params.exposure s.eEff = min 1024 (s.params.exposure * 256 / s.eEff)
      ∧ 256 ≤ compensation s.params.exposure s.eEff

/-- The lamps as an exposure starts (R110, R111, R114, R118): a different pending cycle length aborts
tunes and rescales the staged duties; each applied duty is 0 for a SURVEY, a DISABLED segment or in
SHUTDOWN, at most half in DERATE, else the staged duty; a TUNING segment marks the exposure with its
trial and notes the first exposure of it, except on a SURVEY. -/
def Obligations.LampsFormTheirDuties : Prop :=
  ∀ (s : State) (cause : Cause),
    let u := s.exposedLamps cause;
    let n' := s.lamps.pendingCycle.getD s.lamps.cycle;
    u.cycle = n' ∧ u.pendingCycle = none
      ∧ ∀ i,
        let old := s.lamps.segments.get i;
        let d := if n' = s.lamps.cycle then old
          else { old.abortTune with
                 staged := old.abortTune.staged * 2 ^ n' / 2 ^ s.lamps.cycle };
        let duty := if cause = .survey ∨ (s.guard.segments.get i).disabled = true
            ∨ s.guard.thermal = .shutdown then 0
          else if s.guard.thermal = .derate then min d.staged (2 ^ (n' - 1))
          else d.staged;
        (∀ trial duty' preTune, d.tune = .tuning trial duty' none preTune → cause ≠ .survey →
            u.segments.get i = { d with
              applied := duty, tune := .tuning trial duty' (some s.position.nextSequence) preTune })
          ∧ ((∀ trial duty' preTune, d.tune ≠ .tuning trial duty' none preTune) ∨ cause = .survey →
            u.segments.get i = { d with applied := duty })
          ∧ (s.lamps.markers (decide (cause = .survey))).get i =
            match d.tune with
            | .tuning trial _ _ _ => if cause = .survey then none else some trial
            | .steady => none
            | .holdoff _ => none

/-- A frame handed over (R119 to R122, R125 to R127): a frame that counts ends or advances the trial of a
TUNING segment; a HOLDOFF count falls by one; a usable frame seeds or moves a STEADY segment's reference,
and a reference beyond the band starts a tune. The filter never moves past the mean. Segment i is judged
by its own marker, DISABLED mark, drive and zone result, and by the cycle length, the parameters and the
thermal state in force. -/
def Obligations.HandOverJudgesSegments : Prop :=
  (∀ (c : HandOver) (marker : Option Nat) (disabled : Bool) (d : SegmentDrive) (z : ZoneResult),
      let out := c.segment marker disabled d z;
      let rest := fun (k : Nat) => if k = 0 then Tune.steady else Tune.holdoff k;
      let off := fun (m : Nat) => ((m : Int) - (c.target : Int)).natAbs;
      let quiet := fun (e : SegmentDrive) => out = { drive := e, tuneDone := false, tuneError := false };
      let ended := fun (e : SegmentDrive) (bad : Bool) =>
        out = { drive := e, tuneDone := true, tuneError := bad };
      (∀ trial duty first preTune, d.tune = .tuning trial duty first preTune →
          let counts := ∃ f, first = some f ∧ marker = some trial
            ∧ (c.record.sequence - f).toNat < 32768;
          (¬counts → quiet d)
            ∧ (counts → z.unseen = true →
              ended { d with staged := preTune, tune := rest c.holdoff, verdict := .unseen } true)
            ∧ (counts → z.unseen = false → trial < c.n →
              let next := if z.mean < c.target ∧ z.glare = false then duty + 2 ^ (c.n - 1 - trial)
                else duty - 2 ^ (c.n - 1 - trial);
              quiet { d with staged := next, tune := .tuning (trial + 1) next none preTune })
            ∧ (counts → z.unseen = false → c.n ≤ trial →
              let verdict := if duty = 2 ^ c.n - 1 ∧ z.mean < c.target then TuneVerdict.atTop
                else if duty = 1 ∧ c.target < z.mean then .atBottom
                else if c.band / 8 < off z.mean then .offTarget else .ok;
              let final := some (duty, z.mean);
              if verdict = .ok then
                ended { d with tune := .steady, verdict := .ok, reference := z.mean, reseed := false
                               final } false
              else ended { d with tune := rest c.holdoff, verdict, final } true))
        ∧ (∀ k, d.tune = .holdoff k → quiet { d with tune := rest (k - 1) })
        ∧ (d.tune = .steady →
          let usable := c.record.dark = false ∧ z.unseen = false ∧ z.glare = false ∧ marker = none;
          let moved := if usable then
              if d.reseed then { d with reference := z.mean, reseed := false }
              else { d with reference := ((d.reference : Int)
                + (((z.mean : Int) - (d.reference : Int)) * (c.beta : Int) + 128) / 256).toNat }
            else d;
          if c.autoRetune = true ∧ c.band / 8 < off moved.reference ∧ c.record.dark = false
              ∧ z.unseen = false ∧ moved.reseed = false ∧ disabled = false ∧ c.thermal = .normal then
            quiet { moved with
              staged := 2 ^ (c.n - 1), tune := .tuning 1 (2 ^ (c.n - 1)) none moved.staged }
          else quiet moved))
    ∧ (∀ (c : HandOver) (r m : Nat), 1 ≤ c.beta → c.beta ≤ 256 →
      min r m ≤ c.movedReference r m ∧ c.movedReference r m ≤ max r m
        ∧ (c.beta = 256 → c.movedReference r m = m))
    ∧ ∀ (s : State) (record : FrameRecord) (zones : Eight ZoneResult) (i : Fin 8),
      (s.handOverOutcomes record zones).get i =
        HandOver.segment
          { n := s.lamps.cycle, target := s.params.brightnessTarget, band := s.params.tuneBand
            beta := s.params.referenceBeta, holdoff := s.params.tuneHoldoff
            autoRetune := s.params.autoRetune, thermal := s.guard.thermal, record }
          (record.markers.get i) (s.guard.segments.get i).disabled (s.lamps.segments.get i)
          (zones.get i)

/-! ## Position, motion and exposures -/

/-- ODOMETER COUNT, ODO GLITCH and SPEED WINDOW (R85, R86, R88, R89, R91, R94): a count moves P by one in
the direction of TABLE 5-2 within its limits and is the last count; in TRAVEL it raises a DISTANCE trigger
on reaching L ± STEP; outside TRAVEL it wakes the crawler at WAKE DISTANCE and tests the whole creep; a
glitch moves the phases and its counter alone; a window's end sets v = |P - start| × 125. The clock is the
model's (notes/assumptions/2), and MOTION is latched last (notes/assumptions/12). -/
def Obligations.OdometerMovesThePosition : Prop :=
  (∀ (s : State) (phase : OdoPhase), 1 ≤ s.params.triggerStep →
      let a := s.position.phaseA;
      let b := s.position.phaseB;
      let forward := match phase with | .phaseA => decide (a = b) | .phaseB => decide (a ≠ b)
      let p := if forward then min 2147483647 (s.position.p + 1)
        else max (-2147483647) (s.position.p - 1);
      let step := (s.params.triggerStep : Int);
      let l := s.position.l;
      let moved := { s.position with
        p, lastCount := s.now
        phaseA := if phase = .phaseA then !a else a
        phaseB := if phase = .phaseB then !b else b };
      let at' := fun (u : PositionUnit) => ({ s with position := u } : State);
      -2147483647 ≤ s.position.p → s.position.p ≤ 2147483647 →
      (s.position.mode = .travel →
          (p = l + step → exec (.odometerCount phase) s =
              .next ((at' { moved with l := l + step }).raiseTrigger .distance (l + step)))
            ∧ (p = l - step → exec (.odometerCount phase) s =
              .next ((at' { moved with l := l - step }).raiseTrigger .distance (l - step)))
            ∧ (p ≠ l + step → p ≠ l - step → exec (.odometerCount phase) s = .next (at' moved)))
        ∧ (s.position.mode ≠ .travel →
          ((∀ r, s.position.restPosition = some r → (p - r).natAbs < s.params.wakeDistance) →
              exec (.odometerCount phase) s = .next (at' moved))
            ∧ ∀ r, s.position.restPosition = some r → s.params.wakeDistance ≤ (p - r).natAbs →
              let woken :=
                { moved with mode := .travel, modeEntered := s.now, restPosition := none };
              let below := p / step * step;
              let above := -(-p / step) * step;
              (l + step ≤ p → exec (.odometerCount phase) s = .next
                  (((at' { woken with l := below }).raiseTrigger .distance below).latch [.motion]))
                ∧ (p ≤ l - step → exec (.odometerCount phase) s = .next
                  (((at' { woken with l := above }).raiseTrigger .distance above).latch [.motion]))
                ∧ (l - step < p → p < l + step → exec (.odometerCount phase) s = .next
                  ((at' woken).latch [.motion]))))
    ∧ (∀ s : State, exec .odoGlitch s = .next { s with
      position := { s.position with phaseA := !s.position.phaseA, phaseB := !s.position.phaseB }
      link := { s.link with counters := { s.link.counters with
        odoGlitches := min 4294967295 (s.link.counters.odoGlitches + 1) } } })
    ∧ ∀ s : State,
      let due := s.position.windowStart + 384000;
      exec .speedWindow s = .next { s with
        now := max s.now due
        guard := s.guard.progressed (max s.now due) s.position s.lamps
        position := { s.position with
          speed := (s.position.p - s.position.windowStartValue).natAbs * 125
          windowStartValue := s.position.p, windowStart := due } }

/-- DWELL TIMER, PARK TIMER and TIME TRIGGER (R92, R93, R95): DWELL is entered DWELL TIMEOUT after the
last count with P as the rest position, PARKED PARK TIMEOUT after it, each with MOTION; a TIME trigger
tagged P is raised an interval after the time reference, and at the entry when it is already due. The
clock moves to the due moment if that is still ahead (notes/assumptions/2), and the TIME trigger due at
an entry to DWELL comes before a park timer already passed (notes/assumptions/17). -/
def Obligations.MotionTimersRun : Prop :=
  ∀ s : State,
    let at' := fun (due : Nat) => ({ s with
      now := max s.now due
      guard := s.guard.progressed (max s.now due) s.position s.lamps } : State);
    let due := fun (u : State) (interval : Nat) =>
      u.position.timeReference.getD u.position.modeEntered + interval;
    let dwellMs := 48000 * s.params.dwellInterval;
    let parkMs := 48000000 * s.params.parkInterval;
    let timed := fun (u : State) => ({ u with
      position := { u.position with timeReference := some u.now } } : State).raiseTrigger .time
        u.position.p;
    let parked := fun (u : State) =>
      let v := ({ u with position := { u.position with mode := .parked, modeEntered := u.now } } :
        State).latch [.motion];
      if due v parkMs ≤ v.now then timed v else v;
    let parkDue := s.position.lastCount + 48000000 * s.params.parkTimeout;
    (s.position.mode = .travel → s.params.dwellTimeout ≠ 0 →
        let u := at' (s.position.lastCount + 4800000 * s.params.dwellTimeout);
        let v := ({ u with position := { u.position with
          mode := .dwell, modeEntered := u.now, restPosition := some u.position.p } } : State).latch
            [.motion];
        let w := if due v dwellMs ≤ v.now then timed v else v;
        exec .dwellTimer s = .next
          (if s.params.parkTimeout ≠ 0 ∧ parkDue ≤ w.now then parked w else w))
      ∧ (s.position.mode = .dwell → s.params.parkTimeout ≠ 0 →
        exec .parkTimer s = .next (parked (at' parkDue)))
      ∧ (s.position.mode = .dwell → exec .timeTrigger s = .next (timed (at' (due s dwellMs))))
      ∧ (s.position.mode = .parked → exec .timeTrigger s = .next (timed (at' (due s parkMs))))

/-- The end of an exposure (R102, R104, R141): at E_eff the trigger line is released and the window
closes; a CLOSED exposure leaves the sequencer READY for the next, any other AWAITING FRAME; a waiting
probe starts, before or after the next exposure where both come (R143, a free choice,
notes/assumptions/7). A record OUTSTANDING 100 ms after, or a frame not ended 1 s after its begin, gives
up the exposure with a SENSOR TIMEOUT. The clock is the model's, and the limits run only while AWAITING
FRAME (notes/assumptions/2 and 18). -/
def Obligations.ExposuresEndOrTimeOut : Prop :=
  ∀ (s : State) (e : CurrentExposure), s.position.current = some e →
    (s.position.sequencer = .exposing →
        let now := max s.now (e.start + 48 * e.eEff);
        let g := s.guard.progressed now s.position s.lamps;
        let ended := ({ s with
          now
          position := { s.position with
            triggerLine := false, sequencer := .awaitingFrame
            current := some { e with
              endedAt := if e.recordState = .outstanding then some now else none } }
          guard := { g with segments := g.segments.map fun x => { x with turnedOff := false } } } :
          State);
        let probing := fun (u : State) => ({ u with
          guard := { u.guard with probe := .probing, probeStart := now } } : State);
        let next := s.intake.survey = .armed ∨ s.position.pendingTrigger ≠ none;
        (e.recordState ≠ .closed → exec .exposureEnd s = .next
            (if s.guard.probe = .waiting then probing ended else ended))
          ∧ (e.recordState = .closed → s.guard.probe ≠ .waiting →
            exec .exposureEnd s = .next ended.becomeReady)
          ∧ (e.recordState = .closed → s.guard.probe = .waiting → ¬next →
            exec .exposureEnd s = .next (probing ended).becomeReady)
          ∧ (e.recordState = .closed → s.guard.probe = .waiting → next →
            let chosen := ({ ended with freeIndex := s.freeIndex + 1 } : State);
            exec .exposureEnd s = .next (probing chosen).becomeReady
              ∨ exec .exposureEnd s = .next chosen.becomeReady))
      ∧ (s.position.sequencer = .awaitingFrame →
        let lost := fun (now : Nat) (record : Option FrameRecord) => ({ s with
          now
          position := { s.position with current := none, outstanding := record }
          link := { s.link with counters := { s.link.counters with
            sensorTimeouts := min 4294967295 (s.link.counters.sensorTimeouts + 1) } } } : State);
        (∀ m, e.recordState = .outstanding → e.endedAt = some m → exec .sensorTimeout s =
            .next ((lost (max s.now (m + 4800000)) none).latch [.sensorTimeout]).becomeReady)
          ∧ ∀ m, e.recordState = .readingOut → e.begunAt = some m → exec .readoutLimit s =
            .next ((lost (max s.now (m + 48000000)) s.position.outstanding).latch
              [.sensorTimeout]).becomeReady)

/-! ## Lamp Protection -/

/-- Sensing and over-current (R130 to R135): the sense window closes at the 960th on-step; a second sensed
exposure below 5 mA finds an open string, a voltage below 2 V a short, with the response in force; a
current above 1.5 A at an on-step turns the segment off and disables it, and at an off-step or outside the
window nothing is compared (the event then changes nothing: notes/assumptions/3); every detection flags the
record, ends the segment's tune, judges ALERT and latches LED FAULT. The clock and the progress that stops
at 959 are the model's (notes/assumptions/2 and 14), as are the order of the latches and where the record
is marked (notes/assumptions/12 and 26). -/
def Obligations.SensingFindsFaults : Prop :=
  (∀ n d : Nat, 1 ≤ d → d ≤ 2 ^ n →
      onSteps n d (senseCloseStep n d) = 960 ∧ onSteps n d (senseCloseStep n d - 1) = 959)
    ∧ (∀ (s : State) (e : CurrentExposure) (i : Fin 8) (peak voltage : Nat),
      s.position.sequencer = .exposing → s.position.current = some e →
      let d := (s.lamps.segments.get i).applied;
      let x := s.guard.segments.get i;
      0 < d → x.turnedOff = false → x.progress < 960 →
      960 ≤ onSteps s.lamps.cycle d (48 * e.eEff) →
      let now := max s.now (e.start + senseCloseStep s.lamps.cycle d);
      let opened := peak < 5000 ∧ x.openCount = 1;
      let found := opened ∨ voltage < 2000;
      let tested := { x with
        progress := 960, openCount := if peak < 5000 ∧ x.openCount = 0 then 1 else 0
        openLatch := x.openLatch || decide opened, shortLatch := x.shortLatch || decide (voltage < 2000)
        disabled := x.disabled || decide (found ∧ s.params.ledFaultResponse = .off) };
      let g := s.guard.progressed now s.position s.lamps;
      let t := ({ s with now, guard := { g with segments := g.segments.set i tested } } : State);
      exec (.senseWindowClose i peak voltage) s = .next (if found then t.detect i else t))
    ∧ (∀ (s : State) (e : CurrentExposure) (i : Fin 8) (current : Nat),
      s.position.sequencer = .exposing → s.position.current = some e →
      let elapsed := s.now - e.start;
      let onStep := elapsed < 48 * e.eEff
        ∧ elapsed % 2 ^ s.lamps.cycle < (s.lamps.segments.get i).applied
        ∧ (s.guard.segments.get i).turnedOff = false;
      (¬onStep ∨ current ≤ 1500000 → exec (.overcurrent i current) s = .next s)
      ∧ (onStep → 1500000 < current → exec (.overcurrent i current) s = .next
        (({ s with guard := { s.guard with
            segments := s.guard.segments.set i { s.guard.segments.get i with
              turnedOff := true, overLatch := true, disabled := true } } } : State).detect i)))
    ∧ ∀ (s : State) (i : Fin 8),
      let t := s.detect i;
      let rest := if s.params.tuneHoldoff = 0 then Tune.steady else .holdoff s.params.tuneHoldoff;
      t = { s with
          position := t.position, slots := t.slots, lamps := t.lamps, link := t.link
          guard := { s.guard with alert := alertLevel s.params s.guard } }
        ∧ s.link.KeptBy t.link ∧ t.Reported .ledFault
        ∧ (∀ j, j ≠ i → t.lamps.segments.get j = s.lamps.segments.get j)
        ∧ t.lamps.cycle = s.lamps.cycle ∧ t.lamps.pendingCycle = s.lamps.pendingCycle
        ∧ ((s.lamps.segments.get i).isTuning = false →
          t.lamps.segments.get i = s.lamps.segments.get i)
        ∧ (∀ trial duty first preTune,
          (s.lamps.segments.get i).tune = .tuning trial duty first preTune →
          t.lamps.segments.get i =
              { s.lamps.segments.get i with staged := preTune, tune := rest, verdict := .fault }
            ∧ t.Reported .tuneDone ∧ t.Reported .tuneError)
        ∧ (∀ e, s.position.sequencer = .exposing → s.position.current = some e →
          (∀ r, s.position.outstanding = some r → t.slots = s.slots
              ∧ t.position = { s.position with outstanding := some { r with ledFault := true } })
            ∧ (s.position.outstanding = none → t.position = s.position
              ∧ (∀ k r, e.slot = some k → (s.slots.get k).record = some r →
                t.slots = s.slots.set k
                  { s.slots.get k with record := some { r with ledFault := true } })
              ∧ ((∀ k, e.slot = some k → (s.slots.get k).record = none) → t.slots = s.slots)))
        ∧ (s.position.sequencer ≠ .exposing ∨ s.position.current = none →
          t.slots = s.slots ∧ t.position = s.position)

/-- A thermal sample (R123, R136, R137, R138, R139): the clamped temperature is held; the state changes by
one row of TABLE 7-4, with its latch, the ALERT line and THERMAL; DERATE and SHUTDOWN abort every tune,
and SHUTDOWN darkens an open window and flags its record. The clock, the order of the latches and where
the record is marked are the model's (notes/assumptions/2, 12 and 26). -/
def Obligations.ThermalSamplesAreJudged : Prop :=
  ∀ (s : State) (temperature : Int),
    let c := max (-40) (min 150 temperature);
    let due := s.guard.lastSample + 480000;
    let now := max s.now due;
    let before := s.guard.thermal;
    let after := match before with
      | .normal => if 125 ≤ c then Thermal.shutdown else if 105 ≤ c then .derate else .normal
      | .derate => if 125 ≤ c then .shutdown else if c < 95 then .normal else .derate
      | .shutdown => if c < 115 then .derate else .shutdown;
    let g := { s.guard.progressed now s.position s.lamps with temperature := c, lastSample := due };
    (after = before → exec (.thermalSample temperature) s = .next { s with now, guard := g })
      ∧ (after ≠ before → ∃ t, exec (.thermalSample temperature) s = .next t
        ∧ t = { s with
            now, position := t.position, slots := t.slots, link := t.link, guard := t.guard
            lamps := if after = .normal then s.lamps else s.lamps.abortTunes }
        ∧ s.link.KeptBy t.link ∧ t.Reported .thermal
        ∧ (after ≠ .normal → s.lamps.anyTuning = true → t.Reported .tuneDone)
        ∧ t.guard = { g with
            thermal := after
            warn := s.guard.warn || decide (after = .derate)
            shut := s.guard.shut || decide (after = .shutdown)
            segments := if after = .shutdown ∧ s.position.openWindow ≠ none then
                g.segments.map fun x => { x with turnedOff := true }
              else g.segments
            alert := alertLevel s.params t.guard }
        ∧ (∀ e, after = .shutdown → s.position.sequencer = .exposing → s.position.current = some e →
            (∀ r, s.position.outstanding = some r → t.slots = s.slots
                ∧ t.position = { s.position with outstanding := some { r with shutdown := true } })
              ∧ (s.position.outstanding = none → t.position = s.position
                ∧ (∀ k r, e.slot = some k → (s.slots.get k).record = some r →
                  t.slots = s.slots.set k
                    { s.slots.get k with record := some { r with shutdown := true } })
                ∧ ((∀ k, e.slot = some k → (s.slots.get k).record = none) → t.slots = s.slots)))
        ∧ (after ≠ .shutdown ∨ s.position.openWindow = none →
            t.position = s.position ∧ t.slots = s.slots))

/-! ## Invariants kept by every step, and encodings -/

/-- Every step keeps the queues within their capacities, reserved places counted, and leaves no place
held for a REPLY (R151, R168, TABLE 8-1). -/
def Obligations.StepsKeepTheQueuesBounded : Prop :=
  ∀ s t : State, s.QueuesBounded → step s = .next t → t.QueuesBounded

/-- Every step keeps the defect list in strict order, the edit queue within 16 and the peak size within
512, and a COLLECTING survey's candidates in order, unlisted and within the rows of the frame that fills
(R69, R70, R73, R74, R80, R81). -/
def Obligations.StepsKeepTheDefectList : Prop :=
  ∀ s t : State, s.DefectsSound → s.SurveySound → s.SlotsSound → step s = .next t →
    t.DefectsSound ∧ t.SurveySound

/-- Every step keeps at most one bank ACTIVE, a pending commit on a VALID bank, headers in range, and a
check raster exactly while CHECKING (R38, R39, R40, R47). -/
def Obligations.StepsKeepTheBanks : Prop :=
  ∀ s t : State, s.BanksSound → step s = .next t → t.BanksSound

/-- Every step keeps the four slot states, the intake, the ready order and the engine in agreement, and
the trigger line and current exposure in agreement with the sequencer, and leaves no ARMED survey and no
pending trigger waiting on a READY sequencer (R59, R60, R79, R82, R99, R101, R102). -/
def Obligations.StepsKeepSlotsAndSequencer : Prop :=
  ∀ s t : State, s.SlotsSound → s.SequencerSound → step s = .next t →
    t.SlotsSound ∧ t.SequencerSound

/-- Every step keeps each duty within the cycle length in force, each trial duty on the halving search,
and the parameters within TABLE 10-3 (R112, R114, R120, R170). -/
def Obligations.StepsKeepDutiesAndParameters : Prop :=
  ∀ s t : State, s.params.InRange → s.DutiesSound → step s = .next t →
    t.params.InRange ∧ t.DutiesSound

/-- Every step keeps the counters, the head position, P and the skip tally in their ranges, and the ALERT
line as R139 gives it (R85, R136, R139, R161, R171). -/
def Obligations.StepsKeepRangesAndAlert : Prop :=
  ∀ s t : State, s.RangesSound → s.GuardSound → step s = .next t → t.RangesSound ∧ t.GuardSound

/-- Decode reads back every well-formed numbered command from the tag, used length and payload that carry
it (R146, R167, TABLE 8-7, TABLE 10-3). -/
def Obligations.CommandsDecodeAsEncoded : Prop :=
  ∀ (c : Instr) (tag used : Byte) (payload : List Byte), WellFormed c = true →
    encodeCommand c = some (tag, used, payload) →
    payload.length = 64 ∧ used.toNat ≤ 64 ∧ decodeCommand tag used payload = .run c

/-- A port accepts exactly the seventy bytes that a cell fit for it leaves a port as (R146, R147, R149):
header, payload and check sequence, a used length of at most 64, a kind of its direction, and no
COMMAND with destination 0 on the tether port. -/
def Obligations.CellsSurviveTheWire : Prop :=
  ∀ (p : PortId) (bytes : List Byte) (c : Cell),
    acceptedCell p bytes = some c ↔
      bytes = cellWire c ∧ c.payload.length = 64 ∧ c.used.toNat ≤ 64
        ∧ (p = .tether ↔ c.kind = .command ∨ c.kind = .rollCall)
        ∧ ¬(p = .tether ∧ c.kind = .command ∧ c.dest = 0)
end

