-- ==== Sys2Proof/Laws/State.lean ====
section
/-! SUPPORT. What each update of State does to each field, so that no proof unfolds a record update;
and what reading an updated record of eight, slot pool or bank store gives. -/

namespace Sys2Proof

/-! ## Records of eight -/

@[simp] theorem Eight.get_build {α : Type} (f : Fin 8 → α) (i : Fin 8) :
    (Eight.build f).get i = f i := by
  fin_cases i <;> rfl

@[simp] theorem Eight.get_all {α : Type} (a : α) (i : Fin 8) : (Eight.all a).get i = a := by
  simp [Eight.all]

@[simp] theorem Eight.get_map {α β : Type} (f : α → β) (v : Eight α) (i : Fin 8) :
    (v.map f).get i = f (v.get i) := by
  simp [Eight.map]

theorem Eight.get_set {α : Type} (v : Eight α) (i j : Fin 8) (a : α) :
    (v.set i a).get j = if j = i then a else v.get j := by
  simp [Eight.set]

@[simp] theorem Eight.get_set_same {α : Type} (v : Eight α) (i : Fin 8) (a : α) :
    (v.set i a).get i = a := by
  simp [Eight.get_set]

/-- Two records of eight are equal when their entries are. -/
theorem Eight.ext_get {α : Type} {v w : Eight α} (h : ∀ i, v.get i = w.get i) : v = w := by
  cases v; cases w
  have h0 := h 0; have h1 := h 1; have h2 := h 2; have h3 := h 3
  have h4 := h 4; have h5 := h 5; have h6 := h 6; have h7 := h 7
  simp [Eight.get] at h0 h1 h2 h3 h4 h5 h6 h7
  simp [*]

/-- Some entry satisfies `p` exactly when the record says so. -/
theorem Eight.any_iff {α : Type} (p : α → Bool) (v : Eight α) :
    v.any p = true ↔ ∃ i, p (v.get i) = true := by
  simp only [Eight.any, Eight.toList, List.any_cons, List.any_nil, Bool.or_eq_true, Bool.or_false]
  constructor
  · rintro (h | h | h | h | h | h | h | h)
    exacts [⟨0, h⟩, ⟨1, h⟩, ⟨2, h⟩, ⟨3, h⟩, ⟨4, h⟩, ⟨5, h⟩, ⟨6, h⟩, ⟨7, h⟩]
  · rintro ⟨i, h⟩
    fin_cases i <;> simp_all [Eight.get]

namespace Machine

/-! ## Slots and banks -/

theorem SlotPool.get_set (p : SlotPool) (i j : SlotId) (x : Slot) :
    (p.set i x).get j = if j = i then x else p.get j := by
  cases i <;> cases j <;> rfl

@[simp] theorem SlotPool.get_set_same (p : SlotPool) (i : SlotId) (x : Slot) :
    (p.set i x).get i = x := by
  simp [SlotPool.get_set]

@[simp] theorem SlotPool.readyOrder_set (p : SlotPool) (i : SlotId) (x : Slot) :
    (p.set i x).readyOrder = p.readyOrder := by
  cases i <;> rfl

theorem ViewBankStore.get_set (v : ViewBankStore) (b c : BankId) (x : Bank) :
    (v.set b x).get c = if c = b then x else v.get c := by
  cases b <;> cases c <;> rfl

@[simp] theorem ViewBankStore.get_set_same (v : ViewBankStore) (b : BankId) (x : Bank) :
    (v.set b x).get b = x := by
  simp [ViewBankStore.get_set]

@[simp] theorem ViewBankStore.pendingView_set (v : ViewBankStore) (b : BankId) (x : Bank) :
    (v.set b x).pendingView = v.pendingView := by
  cases b <;> rfl

@[simp] theorem ViewBankStore.verdict_set (v : ViewBankStore) (b : BankId) (x : Bank) :
    (v.set b x).verdict = v.verdict := by
  cases b <;> rfl

/-! ## Updates of one block -/

@[simp] theorem State.setNow_pending (s : State) (x : Nat) : (s.setNow x).pending = s.pending := rfl
@[simp] theorem State.setNow_now (s : State) (x : Nat) : (s.setNow x).now = x := rfl
@[simp] theorem State.setNow_freeIndex (s : State) (x : Nat) : (s.setNow x).freeIndex = s.freeIndex := rfl
@[simp] theorem State.setNow_params (s : State) (x : Nat) : (s.setNow x).params = s.params := rfl
@[simp] theorem State.setNow_intake (s : State) (x : Nat) : (s.setNow x).intake = s.intake := rfl
@[simp] theorem State.setNow_slots (s : State) (x : Nat) : (s.setNow x).slots = s.slots := rfl
@[simp] theorem State.setNow_engine (s : State) (x : Nat) : (s.setNow x).engine = s.engine := rfl
@[simp] theorem State.setNow_views (s : State) (x : Nat) : (s.setNow x).views = s.views := rfl
@[simp] theorem State.setNow_position (s : State) (x : Nat) : (s.setNow x).position = s.position := rfl
@[simp] theorem State.setNow_lamps (s : State) (x : Nat) : (s.setNow x).lamps = s.lamps := rfl
@[simp] theorem State.setNow_guard (s : State) (x : Nat) : (s.setNow x).guard = s.guard := rfl
@[simp] theorem State.setNow_link (s : State) (x : Nat) : (s.setNow x).link = s.link := rfl

@[simp] theorem State.setFreeIndex_pending (s : State) (x : Nat) : (s.setFreeIndex x).pending = s.pending := rfl
@[simp] theorem State.setFreeIndex_now (s : State) (x : Nat) : (s.setFreeIndex x).now = s.now := rfl
@[simp] theorem State.setFreeIndex_freeIndex (s : State) (x : Nat) : (s.setFreeIndex x).freeIndex = x := rfl
@[simp] theorem State.setFreeIndex_params (s : State) (x : Nat) : (s.setFreeIndex x).params = s.params := rfl
@[simp] theorem State.setFreeIndex_intake (s : State) (x : Nat) : (s.setFreeIndex x).intake = s.intake := rfl
@[simp] theorem State.setFreeIndex_slots (s : State) (x : Nat) : (s.setFreeIndex x).slots = s.slots := rfl
@[simp] theorem State.setFreeIndex_engine (s : State) (x : Nat) : (s.setFreeIndex x).engine = s.engine := rfl
@[simp] theorem State.setFreeIndex_views (s : State) (x : Nat) : (s.setFreeIndex x).views = s.views := rfl
@[simp] theorem State.setFreeIndex_position (s : State) (x : Nat) : (s.setFreeIndex x).position = s.position := rfl
@[simp] theorem State.setFreeIndex_lamps (s : State) (x : Nat) : (s.setFreeIndex x).lamps = s.lamps := rfl
@[simp] theorem State.setFreeIndex_guard (s : State) (x : Nat) : (s.setFreeIndex x).guard = s.guard := rfl
@[simp] theorem State.setFreeIndex_link (s : State) (x : Nat) : (s.setFreeIndex x).link = s.link := rfl

@[simp] theorem State.setParams_pending (s : State) (x : Parameters) : (s.setParams x).pending = s.pending := rfl
@[simp] theorem State.setParams_now (s : State) (x : Parameters) : (s.setParams x).now = s.now := rfl
@[simp] theorem State.setParams_freeIndex (s : State) (x : Parameters) : (s.setParams x).freeIndex = s.freeIndex := rfl
@[simp] theorem State.setParams_params (s : State) (x : Parameters) : (s.setParams x).params = x := rfl
@[simp] theorem State.setParams_intake (s : State) (x : Parameters) : (s.setParams x).intake = s.intake := rfl
@[simp] theorem State.setParams_slots (s : State) (x : Parameters) : (s.setParams x).slots = s.slots := rfl
@[simp] theorem State.setParams_engine (s : State) (x : Parameters) : (s.setParams x).engine = s.engine := rfl
@[simp] theorem State.setParams_views (s : State) (x : Parameters) : (s.setParams x).views = s.views := rfl
@[simp] theorem State.setParams_position (s : State) (x : Parameters) : (s.setParams x).position = s.position := rfl
@[simp] theorem State.setParams_lamps (s : State) (x : Parameters) : (s.setParams x).lamps = s.lamps := rfl
@[simp] theorem State.setParams_guard (s : State) (x : Parameters) : (s.setParams x).guard = s.guard := rfl
@[simp] theorem State.setParams_link (s : State) (x : Parameters) : (s.setParams x).link = s.link := rfl

@[simp] theorem State.setIntake_pending (s : State) (x : SensorIntake) : (s.setIntake x).pending = s.pending := rfl
@[simp] theorem State.setIntake_now (s : State) (x : SensorIntake) : (s.setIntake x).now = s.now := rfl
@[simp] theorem State.setIntake_freeIndex (s : State) (x : SensorIntake) : (s.setIntake x).freeIndex = s.freeIndex := rfl
@[simp] theorem State.setIntake_params (s : State) (x : SensorIntake) : (s.setIntake x).params = s.params := rfl
@[simp] theorem State.setIntake_intake (s : State) (x : SensorIntake) : (s.setIntake x).intake = x := rfl
@[simp] theorem State.setIntake_slots (s : State) (x : SensorIntake) : (s.setIntake x).slots = s.slots := rfl
@[simp] theorem State.setIntake_engine (s : State) (x : SensorIntake) : (s.setIntake x).engine = s.engine := rfl
@[simp] theorem State.setIntake_views (s : State) (x : SensorIntake) : (s.setIntake x).views = s.views := rfl
@[simp] theorem State.setIntake_position (s : State) (x : SensorIntake) : (s.setIntake x).position = s.position := rfl
@[simp] theorem State.setIntake_lamps (s : State) (x : SensorIntake) : (s.setIntake x).lamps = s.lamps := rfl
@[simp] theorem State.setIntake_guard (s : State) (x : SensorIntake) : (s.setIntake x).guard = s.guard := rfl
@[simp] theorem State.setIntake_link (s : State) (x : SensorIntake) : (s.setIntake x).link = s.link := rfl

@[simp] theorem State.setSlots_pending (s : State) (x : SlotPool) : (s.setSlots x).pending = s.pending := rfl
@[simp] theorem State.setSlots_now (s : State) (x : SlotPool) : (s.setSlots x).now = s.now := rfl
@[simp] theorem State.setSlots_freeIndex (s : State) (x : SlotPool) : (s.setSlots x).freeIndex = s.freeIndex := rfl
@[simp] theorem State.setSlots_params (s : State) (x : SlotPool) : (s.setSlots x).params = s.params := rfl
@[simp] theorem State.setSlots_intake (s : State) (x : SlotPool) : (s.setSlots x).intake = s.intake := rfl
@[simp] theorem State.setSlots_slots (s : State) (x : SlotPool) : (s.setSlots x).slots = x := rfl
@[simp] theorem State.setSlots_engine (s : State) (x : SlotPool) : (s.setSlots x).engine = s.engine := rfl
@[simp] theorem State.setSlots_views (s : State) (x : SlotPool) : (s.setSlots x).views = s.views := rfl
@[simp] theorem State.setSlots_position (s : State) (x : SlotPool) : (s.setSlots x).position = s.position := rfl
@[simp] theorem State.setSlots_lamps (s : State) (x : SlotPool) : (s.setSlots x).lamps = s.lamps := rfl
@[simp] theorem State.setSlots_guard (s : State) (x : SlotPool) : (s.setSlots x).guard = s.guard := rfl
@[simp] theorem State.setSlots_link (s : State) (x : SlotPool) : (s.setSlots x).link = s.link := rfl

@[simp] theorem State.setEngine_pending (s : State) (x : WarpEngine) : (s.setEngine x).pending = s.pending := rfl
@[simp] theorem State.setEngine_now (s : State) (x : WarpEngine) : (s.setEngine x).now = s.now := rfl
@[simp] theorem State.setEngine_freeIndex (s : State) (x : WarpEngine) : (s.setEngine x).freeIndex = s.freeIndex := rfl
@[simp] theorem State.setEngine_params (s : State) (x : WarpEngine) : (s.setEngine x).params = s.params := rfl
@[simp] theorem State.setEngine_intake (s : State) (x : WarpEngine) : (s.setEngine x).intake = s.intake := rfl
@[simp] theorem State.setEngine_slots (s : State) (x : WarpEngine) : (s.setEngine x).slots = s.slots := rfl
@[simp] theorem State.setEngine_engine (s : State) (x : WarpEngine) : (s.setEngine x).engine = x := rfl
@[simp] theorem State.setEngine_views (s : State) (x : WarpEngine) : (s.setEngine x).views = s.views := rfl
@[simp] theorem State.setEngine_position (s : State) (x : WarpEngine) : (s.setEngine x).position = s.position := rfl
@[simp] theorem State.setEngine_lamps (s : State) (x : WarpEngine) : (s.setEngine x).lamps = s.lamps := rfl
@[simp] theorem State.setEngine_guard (s : State) (x : WarpEngine) : (s.setEngine x).guard = s.guard := rfl
@[simp] theorem State.setEngine_link (s : State) (x : WarpEngine) : (s.setEngine x).link = s.link := rfl

@[simp] theorem State.setViews_pending (s : State) (x : ViewBankStore) : (s.setViews x).pending = s.pending := rfl
@[simp] theorem State.setViews_now (s : State) (x : ViewBankStore) : (s.setViews x).now = s.now := rfl
@[simp] theorem State.setViews_freeIndex (s : State) (x : ViewBankStore) : (s.setViews x).freeIndex = s.freeIndex := rfl
@[simp] theorem State.setViews_params (s : State) (x : ViewBankStore) : (s.setViews x).params = s.params := rfl
@[simp] theorem State.setViews_intake (s : State) (x : ViewBankStore) : (s.setViews x).intake = s.intake := rfl
@[simp] theorem State.setViews_slots (s : State) (x : ViewBankStore) : (s.setViews x).slots = s.slots := rfl
@[simp] theorem State.setViews_engine (s : State) (x : ViewBankStore) : (s.setViews x).engine = s.engine := rfl
@[simp] theorem State.setViews_views (s : State) (x : ViewBankStore) : (s.setViews x).views = x := rfl
@[simp] theorem State.setViews_position (s : State) (x : ViewBankStore) : (s.setViews x).position = s.position := rfl
@[simp] theorem State.setViews_lamps (s : State) (x : ViewBankStore) : (s.setViews x).lamps = s.lamps := rfl
@[simp] theorem State.setViews_guard (s : State) (x : ViewBankStore) : (s.setViews x).guard = s.guard := rfl
@[simp] theorem State.setViews_link (s : State) (x : ViewBankStore) : (s.setViews x).link = s.link := rfl

@[simp] theorem State.setPosition_pending (s : State) (x : PositionUnit) : (s.setPosition x).pending = s.pending := rfl
@[simp] theorem State.setPosition_now (s : State) (x : PositionUnit) : (s.setPosition x).now = s.now := rfl
@[simp] theorem State.setPosition_freeIndex (s : State) (x : PositionUnit) : (s.setPosition x).freeIndex = s.freeIndex := rfl
@[simp] theorem State.setPosition_params (s : State) (x : PositionUnit) : (s.setPosition x).params = s.params := rfl
@[simp] theorem State.setPosition_intake (s : State) (x : PositionUnit) : (s.setPosition x).intake = s.intake := rfl
@[simp] theorem State.setPosition_slots (s : State) (x : PositionUnit) : (s.setPosition x).slots = s.slots := rfl
@[simp] theorem State.setPosition_engine (s : State) (x : PositionUnit) : (s.setPosition x).engine = s.engine := rfl
@[simp] theorem State.setPosition_views (s : State) (x : PositionUnit) : (s.setPosition x).views = s.views := rfl
@[simp] theorem State.setPosition_position (s : State) (x : PositionUnit) : (s.setPosition x).position = x := rfl
@[simp] theorem State.setPosition_lamps (s : State) (x : PositionUnit) : (s.setPosition x).lamps = s.lamps := rfl
@[simp] theorem State.setPosition_guard (s : State) (x : PositionUnit) : (s.setPosition x).guard = s.guard := rfl
@[simp] theorem State.setPosition_link (s : State) (x : PositionUnit) : (s.setPosition x).link = s.link := rfl

@[simp] theorem State.setLamps_pending (s : State) (x : IlluminationUnit) : (s.setLamps x).pending = s.pending := rfl
@[simp] theorem State.setLamps_now (s : State) (x : IlluminationUnit) : (s.setLamps x).now = s.now := rfl
@[simp] theorem State.setLamps_freeIndex (s : State) (x : IlluminationUnit) : (s.setLamps x).freeIndex = s.freeIndex := rfl
@[simp] theorem State.setLamps_params (s : State) (x : IlluminationUnit) : (s.setLamps x).params = s.params := rfl
@[simp] theorem State.setLamps_intake (s : State) (x : IlluminationUnit) : (s.setLamps x).intake = s.intake := rfl
@[simp] theorem State.setLamps_slots (s : State) (x : IlluminationUnit) : (s.setLamps x).slots = s.slots := rfl
@[simp] theorem State.setLamps_engine (s : State) (x : IlluminationUnit) : (s.setLamps x).engine = s.engine := rfl
@[simp] theorem State.setLamps_views (s : State) (x : IlluminationUnit) : (s.setLamps x).views = s.views := rfl
@[simp] theorem State.setLamps_position (s : State) (x : IlluminationUnit) : (s.setLamps x).position = s.position := rfl
@[simp] theorem State.setLamps_lamps (s : State) (x : IlluminationUnit) : (s.setLamps x).lamps = x := rfl
@[simp] theorem State.setLamps_guard (s : State) (x : IlluminationUnit) : (s.setLamps x).guard = s.guard := rfl
@[simp] theorem State.setLamps_link (s : State) (x : IlluminationUnit) : (s.setLamps x).link = s.link := rfl

@[simp] theorem State.setGuard_pending (s : State) (x : LampProtection) : (s.setGuard x).pending = s.pending := rfl
@[simp] theorem State.setGuard_now (s : State) (x : LampProtection) : (s.setGuard x).now = s.now := rfl
@[simp] theorem State.setGuard_freeIndex (s : State) (x : LampProtection) : (s.setGuard x).freeIndex = s.freeIndex := rfl
@[simp] theorem State.setGuard_params (s : State) (x : LampProtection) : (s.setGuard x).params = s.params := rfl
@[simp] theorem State.setGuard_intake (s : State) (x : LampProtection) : (s.setGuard x).intake = s.intake := rfl
@[simp] theorem State.setGuard_slots (s : State) (x : LampProtection) : (s.setGuard x).slots = s.slots := rfl
@[simp] theorem State.setGuard_engine (s : State) (x : LampProtection) : (s.setGuard x).engine = s.engine := rfl
@[simp] theorem State.setGuard_views (s : State) (x : LampProtection) : (s.setGuard x).views = s.views := rfl
@[simp] theorem State.setGuard_position (s : State) (x : LampProtection) : (s.setGuard x).position = s.position := rfl
@[simp] theorem State.setGuard_lamps (s : State) (x : LampProtection) : (s.setGuard x).lamps = s.lamps := rfl
@[simp] theorem State.setGuard_guard (s : State) (x : LampProtection) : (s.setGuard x).guard = x := rfl
@[simp] theorem State.setGuard_link (s : State) (x : LampProtection) : (s.setGuard x).link = s.link := rfl

@[simp] theorem State.setLink_pending (s : State) (x : LinkUnit) : (s.setLink x).pending = s.pending := rfl
@[simp] theorem State.setLink_now (s : State) (x : LinkUnit) : (s.setLink x).now = s.now := rfl
@[simp] theorem State.setLink_freeIndex (s : State) (x : LinkUnit) : (s.setLink x).freeIndex = s.freeIndex := rfl
@[simp] theorem State.setLink_params (s : State) (x : LinkUnit) : (s.setLink x).params = s.params := rfl
@[simp] theorem State.setLink_intake (s : State) (x : LinkUnit) : (s.setLink x).intake = s.intake := rfl
@[simp] theorem State.setLink_slots (s : State) (x : LinkUnit) : (s.setLink x).slots = s.slots := rfl
@[simp] theorem State.setLink_engine (s : State) (x : LinkUnit) : (s.setLink x).engine = s.engine := rfl
@[simp] theorem State.setLink_views (s : State) (x : LinkUnit) : (s.setLink x).views = s.views := rfl
@[simp] theorem State.setLink_position (s : State) (x : LinkUnit) : (s.setLink x).position = s.position := rfl
@[simp] theorem State.setLink_lamps (s : State) (x : LinkUnit) : (s.setLink x).lamps = s.lamps := rfl
@[simp] theorem State.setLink_guard (s : State) (x : LinkUnit) : (s.setLink x).guard = s.guard := rfl
@[simp] theorem State.setLink_link (s : State) (x : LinkUnit) : (s.setLink x).link = x := rfl

end Machine

end Sys2Proof
end

