-- ==== Sys2Proof/Laws/Ops.lean ====
section
/-! SUPPORT. What each shared operation of Ops.lean can do, said once: which fields it leaves, what it
does to the Link Unit, and when a consumed command is executed. -/

namespace Sys2Proof.Machine

/-! ## Operations that touch the Link Unit alone -/

/-- Setting the Link Unit twice keeps the second. -/
@[simp] theorem State.setLink_setLink (s : State) (l m : LinkUnit) :
    (s.setLink l).setLink m = s.setLink m := rfl

/-- Setting the Link Unit to the one held changes nothing. -/
@[simp] theorem State.setLink_self (s : State) : s.setLink s.link = s := rfl

theorem State.setLatches_eq (s : State) (ks : List EventKind) :
    s.setLatches ks = s.setLink { s.link with latches := s.link.latches ||| eventMarks ks } := rfl

/-- Latching events changes the Link Unit alone (R172). -/
theorem State.latch_eq_setLink (s : State) (ks : List EventKind) :
    s.latch ks = s.setLink (s.latch ks).link := by
  unfold State.latch
  split <;> rfl

@[simp] theorem State.latch_pending (s : State) (ks : List EventKind) : (s.latch ks).pending = s.pending := by
  rw [State.latch_eq_setLink]; rfl
@[simp] theorem State.latch_now (s : State) (ks : List EventKind) : (s.latch ks).now = s.now := by
  rw [State.latch_eq_setLink]; rfl
@[simp] theorem State.latch_freeIndex (s : State) (ks : List EventKind) : (s.latch ks).freeIndex = s.freeIndex := by
  rw [State.latch_eq_setLink]; rfl
@[simp] theorem State.latch_params (s : State) (ks : List EventKind) : (s.latch ks).params = s.params := by
  rw [State.latch_eq_setLink]; rfl
@[simp] theorem State.latch_intake (s : State) (ks : List EventKind) : (s.latch ks).intake = s.intake := by
  rw [State.latch_eq_setLink]; rfl
@[simp] theorem State.latch_slots (s : State) (ks : List EventKind) : (s.latch ks).slots = s.slots := by
  rw [State.latch_eq_setLink]; rfl
@[simp] theorem State.latch_engine (s : State) (ks : List EventKind) : (s.latch ks).engine = s.engine := by
  rw [State.latch_eq_setLink]; rfl
@[simp] theorem State.latch_views (s : State) (ks : List EventKind) : (s.latch ks).views = s.views := by
  rw [State.latch_eq_setLink]; rfl
@[simp] theorem State.latch_position (s : State) (ks : List EventKind) : (s.latch ks).position = s.position := by
  rw [State.latch_eq_setLink]; rfl
@[simp] theorem State.latch_lamps (s : State) (ks : List EventKind) : (s.latch ks).lamps = s.lamps := by
  rw [State.latch_eq_setLink]; rfl
@[simp] theorem State.latch_guard (s : State) (ks : List EventKind) : (s.latch ks).guard = s.guard := by
  rw [State.latch_eq_setLink]; rfl

@[simp] theorem State.count_pending (s : State) (f : Counters → Counters) : (s.count f).pending = s.pending := rfl
@[simp] theorem State.count_now (s : State) (f : Counters → Counters) : (s.count f).now = s.now := rfl
@[simp] theorem State.count_freeIndex (s : State) (f : Counters → Counters) : (s.count f).freeIndex = s.freeIndex := rfl
@[simp] theorem State.count_params (s : State) (f : Counters → Counters) : (s.count f).params = s.params := rfl
@[simp] theorem State.count_intake (s : State) (f : Counters → Counters) : (s.count f).intake = s.intake := rfl
@[simp] theorem State.count_slots (s : State) (f : Counters → Counters) : (s.count f).slots = s.slots := rfl
@[simp] theorem State.count_engine (s : State) (f : Counters → Counters) : (s.count f).engine = s.engine := rfl
@[simp] theorem State.count_views (s : State) (f : Counters → Counters) : (s.count f).views = s.views := rfl
@[simp] theorem State.count_position (s : State) (f : Counters → Counters) : (s.count f).position = s.position := rfl
@[simp] theorem State.count_lamps (s : State) (f : Counters → Counters) : (s.count f).lamps = s.lamps := rfl
@[simp] theorem State.count_guard (s : State) (f : Counters → Counters) : (s.count f).guard = s.guard := rfl

@[simp] theorem State.placeReply_pending (s : State) (tag number : Byte) (a : Answer) : (s.placeReply tag number a).pending = s.pending := rfl
@[simp] theorem State.placeReply_now (s : State) (tag number : Byte) (a : Answer) : (s.placeReply tag number a).now = s.now := rfl
@[simp] theorem State.placeReply_freeIndex (s : State) (tag number : Byte) (a : Answer) : (s.placeReply tag number a).freeIndex = s.freeIndex := rfl
@[simp] theorem State.placeReply_params (s : State) (tag number : Byte) (a : Answer) : (s.placeReply tag number a).params = s.params := rfl
@[simp] theorem State.placeReply_intake (s : State) (tag number : Byte) (a : Answer) : (s.placeReply tag number a).intake = s.intake := rfl
@[simp] theorem State.placeReply_slots (s : State) (tag number : Byte) (a : Answer) : (s.placeReply tag number a).slots = s.slots := rfl
@[simp] theorem State.placeReply_engine (s : State) (tag number : Byte) (a : Answer) : (s.placeReply tag number a).engine = s.engine := rfl
@[simp] theorem State.placeReply_views (s : State) (tag number : Byte) (a : Answer) : (s.placeReply tag number a).views = s.views := rfl
@[simp] theorem State.placeReply_position (s : State) (tag number : Byte) (a : Answer) : (s.placeReply tag number a).position = s.position := rfl
@[simp] theorem State.placeReply_lamps (s : State) (tag number : Byte) (a : Answer) : (s.placeReply tag number a).lamps = s.lamps := rfl
@[simp] theorem State.placeReply_guard (s : State) (tag number : Byte) (a : Answer) : (s.placeReply tag number a).guard = s.guard := rfl

@[simp] theorem State.holdReplyPlace_pending (s : State) : (s.holdReplyPlace).pending = s.pending := rfl
@[simp] theorem State.holdReplyPlace_now (s : State) : (s.holdReplyPlace).now = s.now := rfl
@[simp] theorem State.holdReplyPlace_freeIndex (s : State) : (s.holdReplyPlace).freeIndex = s.freeIndex := rfl
@[simp] theorem State.holdReplyPlace_params (s : State) : (s.holdReplyPlace).params = s.params := rfl
@[simp] theorem State.holdReplyPlace_intake (s : State) : (s.holdReplyPlace).intake = s.intake := rfl
@[simp] theorem State.holdReplyPlace_slots (s : State) : (s.holdReplyPlace).slots = s.slots := rfl
@[simp] theorem State.holdReplyPlace_engine (s : State) : (s.holdReplyPlace).engine = s.engine := rfl
@[simp] theorem State.holdReplyPlace_views (s : State) : (s.holdReplyPlace).views = s.views := rfl
@[simp] theorem State.holdReplyPlace_position (s : State) : (s.holdReplyPlace).position = s.position := rfl
@[simp] theorem State.holdReplyPlace_lamps (s : State) : (s.holdReplyPlace).lamps = s.lamps := rfl
@[simp] theorem State.holdReplyPlace_guard (s : State) : (s.holdReplyPlace).guard = s.guard := rfl

/-! ## The Link Unit through those operations -/

@[simp] theorem State.count_link (s : State) (f : Counters → Counters) :
    (s.count f).link = { s.link with counters := f s.link.counters } := rfl

@[simp] theorem State.holdReplyPlace_link (s : State) :
    s.holdReplyPlace.link = { s.link with replyPlace := true } := rfl

@[simp] theorem State.placeReply_link (s : State) (tag number : Byte) (a : Answer) :
    (s.placeReply tag number a).link =
      { s.link with
        management := s.link.management ++ [replyCell s tag number a], replyPlace := false } := rfl

/-- A Link Unit keeps to itself. -/
theorem LinkUnit.KeptBy.refl (l : LinkUnit) : l.KeptBy l :=
  ⟨rfl, rfl, rfl, rfl, rfl, rfl, rfl, rfl, rfl⟩

theorem LinkUnit.KeptBy.trans {l m n : LinkUnit} (h : l.KeptBy m) (k : m.KeptBy n) : l.KeptBy n := by
  obtain ⟨h1, h2, h3, h4, h5, h6, h7, h8, h9⟩ := h
  obtain ⟨k1, k2, k3, k4, k5, k6, k7, k8, k9⟩ := k
  exact ⟨k1.trans h1, k2.trans h2, k3.trans h3, k4.trans h4, k5.trans h5, k6.trans h6, k7.trans h7,
    k8.trans h8, k9.trans h9⟩

/-- An occasion for a STATUS cell touches only what latching may touch (R173). -/
theorem statusOccasion_kept (s : State) : s.link.KeptBy (statusOccasion s) := by
  unfold statusOccasion
  split
  · exact ⟨rfl, rfl, rfl, rfl, rfl, rfl, rfl, rfl, rfl⟩
  · split
    · exact LinkUnit.KeptBy.refl _
    · split <;> exact ⟨rfl, rfl, rfl, rfl, rfl, rfl, rfl, rfl, rfl⟩

/-- An occasion leaves the place held for a REPLY as it was. -/
@[simp] theorem statusOccasion_replyPlace (s : State) :
    (statusOccasion s).replyPlace = s.link.replyPlace := by
  unfold statusOccasion
  split
  · rfl
  · split
    · rfl
    · split <;> rfl

/-- An occasion adds a cell to the management queue only into a free place (R168). -/
theorem statusOccasion_management (s : State) :
    (statusOccasion s).management.length ≤ s.link.management.length
      ∨ (s.link.managementFree = true
        ∧ (statusOccasion s).management.length = s.link.management.length + 1) := by
  unfold statusOccasion
  split
  · left; simp
  · split
    · left; simp
    · split
      · right; simp_all [queueStatus, LinkUnit.placeManagement]
      · left; simp

/-- Latching keeps everything of the Link Unit but the management queue, the latches and STATUS OWED. -/
theorem State.latch_kept (s : State) (ks : List EventKind) : s.link.KeptBy (s.latch ks).link := by
  unfold State.latch
  split
  · exact LinkUnit.KeptBy.trans (m := (s.setLatches ks).link)
      ⟨rfl, rfl, rfl, rfl, rfl, rfl, rfl, rfl, rfl⟩ (statusOccasion_kept _)
  · exact ⟨rfl, rfl, rfl, rfl, rfl, rfl, rfl, rfl, rfl⟩

@[simp] theorem State.latch_replyPlace (s : State) (ks : List EventKind) :
    (s.latch ks).link.replyPlace = s.link.replyPlace := by
  unfold State.latch
  split
  · simp [State.setLatches]
  · rfl

/-- Latching adds a cell to the management queue only into a free place (R168). -/
theorem State.latch_management (s : State) (ks : List EventKind) :
    (s.latch ks).link.management.length ≤ s.link.management.length
      ∨ (s.link.managementFree = true
        ∧ (s.latch ks).link.management.length = s.link.management.length + 1) := by
  unfold State.latch
  split
  · exact statusOccasion_management (s.setLatches ks)
  · left; exact Nat.le_refl _

/-- The queue of a held place: latching while a place is held leaves room for the REPLY (R167). -/
theorem State.latch_room (s : State) (ks : List EventKind)
    (h : s.link.management.length + bit s.link.replyPlace ≤ 32) :
    (s.latch ks).link.management.length + bit (s.latch ks).link.replyPlace ≤ 32 := by
  rw [State.latch_replyPlace]
  rcases State.latch_management s ks with hle | ⟨hfree, heq⟩
  · omega
  · have hlt : s.link.management.length + bit s.link.replyPlace < 32 := of_decide_eq_true hfree
    omega

/-! ## Consumed commands (R167) -/

/-- With a place free, a consumed command is carried out by its owner and answered. -/
theorem consume_of_placeFree {tag number : Byte} {owner : State → Answer × State} {s : State}
    (h : s.PlaceFree) :
    consume tag number owner s
      = (owner s.holdReplyPlace).2.placeReply tag number (owner s.holdReplyPlace).1 := by
  have hfree : s.link.managementFree = true := by
    simp [LinkUnit.managementFree, h.1, h.2, bit, Config.managementCapacity]
  simp [consume, hfree]

/-- With no place free, a consumed command is discarded unexecuted and counted. -/
theorem consume_of_full {tag number : Byte} {owner : State → Answer × State} {s : State}
    (h : s.link.managementFree = false) :
    consume tag number owner s = s.count Counters.dropReply := by
  simp [consume, h]

/-! ## Clock and exposure -/

@[simp] theorem LampProtection.progressed_of_closed (g : LampProtection) (now : Nat)
    (u : PositionUnit) (lamps : IlluminationUnit) (h : u.openWindow = none) :
    g.progressed now u lamps = g := by
  simp [LampProtection.progressed, h]

/-- Sense progress is all that passing time changes in Lamp Protection (R130). -/
theorem LampProtection.progressed_eq (g : LampProtection) (now : Nat) (u : PositionUnit)
    (lamps : IlluminationUnit) :
    g.progressed now u lamps = { g with segments := (g.progressed now u lamps).segments } := by
  unfold LampProtection.progressed
  split <;> rfl

/-- A segment keeps its latches, DISABLED mark and open count as its sense progress runs. -/
theorem progressAt_eq (n elapsed : Nat) (g : SegmentGuard) (d : SegmentDrive) :
    progressAt n elapsed g d = { g with progress := (progressAt n elapsed g d).progress } := by
  unfold progressAt
  split <;> rfl

@[simp] theorem State.advanceTo_pending (s : State) (t : Nat) : (s.advanceTo t).pending = s.pending := rfl
@[simp] theorem State.advanceTo_freeIndex (s : State) (t : Nat) : (s.advanceTo t).freeIndex = s.freeIndex := rfl
@[simp] theorem State.advanceTo_params (s : State) (t : Nat) : (s.advanceTo t).params = s.params := rfl
@[simp] theorem State.advanceTo_intake (s : State) (t : Nat) : (s.advanceTo t).intake = s.intake := rfl
@[simp] theorem State.advanceTo_slots (s : State) (t : Nat) : (s.advanceTo t).slots = s.slots := rfl
@[simp] theorem State.advanceTo_engine (s : State) (t : Nat) : (s.advanceTo t).engine = s.engine := rfl
@[simp] theorem State.advanceTo_views (s : State) (t : Nat) : (s.advanceTo t).views = s.views := rfl
@[simp] theorem State.advanceTo_position (s : State) (t : Nat) : (s.advanceTo t).position = s.position := rfl
@[simp] theorem State.advanceTo_lamps (s : State) (t : Nat) : (s.advanceTo t).lamps = s.lamps := rfl
@[simp] theorem State.advanceTo_link (s : State) (t : Nat) : (s.advanceTo t).link = s.link := rfl

@[simp] theorem State.advanceTo_now (s : State) (t : Nat) : (s.advanceTo t).now = max s.now t := rfl

@[simp] theorem State.advanceTo_guard (s : State) (t : Nat) :
    (s.advanceTo t).guard = s.guard.progressed (max s.now t) s.position s.lamps := rfl

/-- Outside an exposure, moving the clock on moves the clock alone. -/
theorem State.advanceTo_of_closed (s : State) (t : Nat) (h : s.position.openWindow = none) :
    s.advanceTo t = s.setNow (max s.now t) := by
  simp [State.advanceTo, h, State.setNow, State.setGuard]

/-- Marking the record of the exposure in progress changes the record held or a slot's, no more. -/
theorem State.markExposure_cases (s : State) (f : FrameRecord → FrameRecord) :
    s.markExposure f = s
      ∨ (∃ r, s.position.outstanding = some r
        ∧ s.markExposure f = s.setPosition { s.position with outstanding := some (f r) })
      ∨ ∃ i, s.markExposure f = s.setSlots (s.slots.set i ((s.slots.get i).mapRecord f)) := by
  unfold State.markExposure
  split
  · exact .inl rfl
  · split
    · exact .inr (.inl ⟨_, ‹_›, rfl⟩)
    · exact .inr (.inr ⟨_, rfl⟩)
    · exact .inl rfl

@[simp] theorem State.markExposure_pending (s : State) (f : FrameRecord → FrameRecord) :
    (s.markExposure f).pending = s.pending := by
  rcases s.markExposure_cases f with h | ⟨_, _, h⟩ | ⟨_, h⟩ <;> rw [h] <;> rfl
@[simp] theorem State.markExposure_now (s : State) (f : FrameRecord → FrameRecord) :
    (s.markExposure f).now = s.now := by
  rcases s.markExposure_cases f with h | ⟨_, _, h⟩ | ⟨_, h⟩ <;> rw [h] <;> rfl
@[simp] theorem State.markExposure_freeIndex (s : State) (f : FrameRecord → FrameRecord) :
    (s.markExposure f).freeIndex = s.freeIndex := by
  rcases s.markExposure_cases f with h | ⟨_, _, h⟩ | ⟨_, h⟩ <;> rw [h] <;> rfl
@[simp] theorem State.markExposure_params (s : State) (f : FrameRecord → FrameRecord) :
    (s.markExposure f).params = s.params := by
  rcases s.markExposure_cases f with h | ⟨_, _, h⟩ | ⟨_, h⟩ <;> rw [h] <;> rfl
@[simp] theorem State.markExposure_intake (s : State) (f : FrameRecord → FrameRecord) :
    (s.markExposure f).intake = s.intake := by
  rcases s.markExposure_cases f with h | ⟨_, _, h⟩ | ⟨_, h⟩ <;> rw [h] <;> rfl
@[simp] theorem State.markExposure_engine (s : State) (f : FrameRecord → FrameRecord) :
    (s.markExposure f).engine = s.engine := by
  rcases s.markExposure_cases f with h | ⟨_, _, h⟩ | ⟨_, h⟩ <;> rw [h] <;> rfl
@[simp] theorem State.markExposure_views (s : State) (f : FrameRecord → FrameRecord) :
    (s.markExposure f).views = s.views := by
  rcases s.markExposure_cases f with h | ⟨_, _, h⟩ | ⟨_, h⟩ <;> rw [h] <;> rfl
@[simp] theorem State.markExposure_lamps (s : State) (f : FrameRecord → FrameRecord) :
    (s.markExposure f).lamps = s.lamps := by
  rcases s.markExposure_cases f with h | ⟨_, _, h⟩ | ⟨_, h⟩ <;> rw [h] <;> rfl
@[simp] theorem State.markExposure_guard (s : State) (f : FrameRecord → FrameRecord) :
    (s.markExposure f).guard = s.guard := by
  rcases s.markExposure_cases f with h | ⟨_, _, h⟩ | ⟨_, h⟩ <;> rw [h] <;> rfl
@[simp] theorem State.markExposure_link (s : State) (f : FrameRecord → FrameRecord) :
    (s.markExposure f).link = s.link := by
  rcases s.markExposure_cases f with h | ⟨_, _, h⟩ | ⟨_, h⟩ <;> rw [h] <;> rfl

/-! ## Flow control -/

/-- Judging HOLD sent keeps every queue (R154). -/
@[simp] theorem LinkUnit.judgeDownHold_management (l : LinkUnit) :
    l.judgeDownHold.management = l.management := by
  unfold LinkUnit.judgeDownHold; split <;> (try split) <;> rfl
@[simp] theorem LinkUnit.judgeDownHold_downForward (l : LinkUnit) :
    l.judgeDownHold.downForward = l.downForward := by
  unfold LinkUnit.judgeDownHold; split <;> (try split) <;> rfl
@[simp] theorem LinkUnit.judgeDownHold_upForward (l : LinkUnit) :
    l.judgeDownHold.upForward = l.upForward := by
  unfold LinkUnit.judgeDownHold; split <;> (try split) <;> rfl
@[simp] theorem LinkUnit.judgeDownHold_ownVideo (l : LinkUnit) :
    l.judgeDownHold.ownVideo = l.ownVideo := by
  unfold LinkUnit.judgeDownHold; split <;> (try split) <;> rfl
@[simp] theorem LinkUnit.judgeDownHold_replyPlace (l : LinkUnit) :
    l.judgeDownHold.replyPlace = l.replyPlace := by
  unfold LinkUnit.judgeDownHold; split <;> (try split) <;> rfl
@[simp] theorem LinkUnit.judgeUpHold_management (l : LinkUnit) :
    l.judgeUpHold.management = l.management := by
  unfold LinkUnit.judgeUpHold; split <;> (try split) <;> rfl
@[simp] theorem LinkUnit.judgeUpHold_downForward (l : LinkUnit) :
    l.judgeUpHold.downForward = l.downForward := by
  unfold LinkUnit.judgeUpHold; split <;> (try split) <;> rfl
@[simp] theorem LinkUnit.judgeUpHold_upForward (l : LinkUnit) :
    l.judgeUpHold.upForward = l.upForward := by
  unfold LinkUnit.judgeUpHold; split <;> (try split) <;> rfl
@[simp] theorem LinkUnit.judgeUpHold_ownVideo (l : LinkUnit) :
    l.judgeUpHold.ownVideo = l.ownVideo := by
  unfold LinkUnit.judgeUpHold; split <;> (try split) <;> rfl
@[simp] theorem LinkUnit.judgeUpHold_replyPlace (l : LinkUnit) :
    l.judgeUpHold.replyPlace = l.replyPlace := by
  unfold LinkUnit.judgeUpHold; split <;> (try split) <;> rfl

end Sys2Proof.Machine
end

