-- ==== Sys2Proof/Laws/Sequencer.lean ====
section
/-! SUPPORT. What the trigger sequencer's shared operations leave as it was: an exposure starting, a
trigger raised, the sequencer becoming READY, and Sensor Intake's reports. -/

namespace Sys2Proof.Machine

@[simp] theorem State.startExposure_pending (s : State) (c : Cause) (t : Int) : (s.startExposure c t).pending = s.pending := by
  simp [State.startExposure]
@[simp] theorem State.startExposure_now (s : State) (c : Cause) (t : Int) : (s.startExposure c t).now = s.now := by
  simp [State.startExposure]
@[simp] theorem State.startExposure_freeIndex (s : State) (c : Cause) (t : Int) : (s.startExposure c t).freeIndex = s.freeIndex := by
  simp [State.startExposure]
@[simp] theorem State.startExposure_params (s : State) (c : Cause) (t : Int) : (s.startExposure c t).params = s.params := by
  simp [State.startExposure]
@[simp] theorem State.startExposure_intake (s : State) (c : Cause) (t : Int) : (s.startExposure c t).intake = s.intake := by
  simp [State.startExposure]
@[simp] theorem State.startExposure_slots (s : State) (c : Cause) (t : Int) : (s.startExposure c t).slots = s.slots := by
  simp [State.startExposure]
@[simp] theorem State.startExposure_engine (s : State) (c : Cause) (t : Int) : (s.startExposure c t).engine = s.engine := by
  simp [State.startExposure]
@[simp] theorem State.startExposure_views (s : State) (c : Cause) (t : Int) : (s.startExposure c t).views = s.views := by
  simp [State.startExposure]

@[simp] theorem State.pendTrigger_pending (s : State) (t : Trigger) : (s.pendTrigger t).pending = s.pending := by
  unfold State.pendTrigger; split <;> simp
@[simp] theorem State.pendTrigger_now (s : State) (t : Trigger) : (s.pendTrigger t).now = s.now := by
  unfold State.pendTrigger; split <;> simp
@[simp] theorem State.pendTrigger_freeIndex (s : State) (t : Trigger) : (s.pendTrigger t).freeIndex = s.freeIndex := by
  unfold State.pendTrigger; split <;> simp
@[simp] theorem State.pendTrigger_params (s : State) (t : Trigger) : (s.pendTrigger t).params = s.params := by
  unfold State.pendTrigger; split <;> simp
@[simp] theorem State.pendTrigger_intake (s : State) (t : Trigger) : (s.pendTrigger t).intake = s.intake := by
  unfold State.pendTrigger; split <;> simp
@[simp] theorem State.pendTrigger_slots (s : State) (t : Trigger) : (s.pendTrigger t).slots = s.slots := by
  unfold State.pendTrigger; split <;> simp
@[simp] theorem State.pendTrigger_engine (s : State) (t : Trigger) : (s.pendTrigger t).engine = s.engine := by
  unfold State.pendTrigger; split <;> simp
@[simp] theorem State.pendTrigger_views (s : State) (t : Trigger) : (s.pendTrigger t).views = s.views := by
  unfold State.pendTrigger; split <;> simp

@[simp] theorem State.raiseTrigger_pending (s : State) (c : Cause) (t : Int) : (s.raiseTrigger c t).pending = s.pending := by
  unfold State.raiseTrigger; split <;> simp
@[simp] theorem State.raiseTrigger_now (s : State) (c : Cause) (t : Int) : (s.raiseTrigger c t).now = s.now := by
  unfold State.raiseTrigger; split <;> simp
@[simp] theorem State.raiseTrigger_freeIndex (s : State) (c : Cause) (t : Int) : (s.raiseTrigger c t).freeIndex = s.freeIndex := by
  unfold State.raiseTrigger; split <;> simp
@[simp] theorem State.raiseTrigger_params (s : State) (c : Cause) (t : Int) : (s.raiseTrigger c t).params = s.params := by
  unfold State.raiseTrigger; split <;> simp
@[simp] theorem State.raiseTrigger_intake (s : State) (c : Cause) (t : Int) : (s.raiseTrigger c t).intake = s.intake := by
  unfold State.raiseTrigger; split <;> simp
@[simp] theorem State.raiseTrigger_slots (s : State) (c : Cause) (t : Int) : (s.raiseTrigger c t).slots = s.slots := by
  unfold State.raiseTrigger; split <;> simp
@[simp] theorem State.raiseTrigger_engine (s : State) (c : Cause) (t : Int) : (s.raiseTrigger c t).engine = s.engine := by
  unfold State.raiseTrigger; split <;> simp
@[simp] theorem State.raiseTrigger_views (s : State) (c : Cause) (t : Int) : (s.raiseTrigger c t).views = s.views := by
  unfold State.raiseTrigger; split <;> simp

@[simp] theorem State.takeUpNext_pending (s : State) : (s.takeUpNext).pending = s.pending := by
  unfold State.takeUpNext; split <;> (try split) <;> simp
@[simp] theorem State.takeUpNext_now (s : State) : (s.takeUpNext).now = s.now := by
  unfold State.takeUpNext; split <;> (try split) <;> simp
@[simp] theorem State.takeUpNext_freeIndex (s : State) : (s.takeUpNext).freeIndex = s.freeIndex := by
  unfold State.takeUpNext; split <;> (try split) <;> simp
@[simp] theorem State.takeUpNext_params (s : State) : (s.takeUpNext).params = s.params := by
  unfold State.takeUpNext; split <;> (try split) <;> simp
@[simp] theorem State.takeUpNext_intake (s : State) : (s.takeUpNext).intake = s.intake := by
  unfold State.takeUpNext; split <;> (try split) <;> simp
@[simp] theorem State.takeUpNext_slots (s : State) : (s.takeUpNext).slots = s.slots := by
  unfold State.takeUpNext; split <;> (try split) <;> simp
@[simp] theorem State.takeUpNext_engine (s : State) : (s.takeUpNext).engine = s.engine := by
  unfold State.takeUpNext; split <;> (try split) <;> simp
@[simp] theorem State.takeUpNext_views (s : State) : (s.takeUpNext).views = s.views := by
  unfold State.takeUpNext; split <;> (try split) <;> simp

@[simp] theorem State.takeUpArmed_pending (s : State) (b : Bool) : (s.takeUpArmed b).pending = s.pending := by
  unfold State.takeUpArmed; split <;> simp
@[simp] theorem State.takeUpArmed_now (s : State) (b : Bool) : (s.takeUpArmed b).now = s.now := by
  unfold State.takeUpArmed; split <;> simp
@[simp] theorem State.takeUpArmed_freeIndex (s : State) (b : Bool) : (s.takeUpArmed b).freeIndex = s.freeIndex := by
  unfold State.takeUpArmed; split <;> simp
@[simp] theorem State.takeUpArmed_params (s : State) (b : Bool) : (s.takeUpArmed b).params = s.params := by
  unfold State.takeUpArmed; split <;> simp
@[simp] theorem State.takeUpArmed_intake (s : State) (b : Bool) : (s.takeUpArmed b).intake = s.intake := by
  unfold State.takeUpArmed; split <;> simp
@[simp] theorem State.takeUpArmed_slots (s : State) (b : Bool) : (s.takeUpArmed b).slots = s.slots := by
  unfold State.takeUpArmed; split <;> simp
@[simp] theorem State.takeUpArmed_engine (s : State) (b : Bool) : (s.takeUpArmed b).engine = s.engine := by
  unfold State.takeUpArmed; split <;> simp
@[simp] theorem State.takeUpArmed_views (s : State) (b : Bool) : (s.takeUpArmed b).views = s.views := by
  unfold State.takeUpArmed; split <;> simp

@[simp] theorem State.becomeReady_pending (s : State) : (s.becomeReady).pending = s.pending := by
  simp [State.becomeReady]
@[simp] theorem State.becomeReady_now (s : State) : (s.becomeReady).now = s.now := by
  simp [State.becomeReady]
@[simp] theorem State.becomeReady_freeIndex (s : State) : (s.becomeReady).freeIndex = s.freeIndex := by
  simp [State.becomeReady]
@[simp] theorem State.becomeReady_params (s : State) : (s.becomeReady).params = s.params := by
  simp [State.becomeReady]
@[simp] theorem State.becomeReady_intake (s : State) : (s.becomeReady).intake = s.intake := by
  simp [State.becomeReady]
@[simp] theorem State.becomeReady_slots (s : State) : (s.becomeReady).slots = s.slots := by
  simp [State.becomeReady]
@[simp] theorem State.becomeReady_engine (s : State) : (s.becomeReady).engine = s.engine := by
  simp [State.becomeReady]
@[simp] theorem State.becomeReady_views (s : State) : (s.becomeReady).views = s.views := by
  simp [State.becomeReady]

@[simp] theorem State.reportEnd_pending (s : State) (q : BitVec 16) : (s.reportEnd q).pending = s.pending := by
  unfold State.reportEnd; split <;> (try split) <;> simp
@[simp] theorem State.reportEnd_now (s : State) (q : BitVec 16) : (s.reportEnd q).now = s.now := by
  unfold State.reportEnd; split <;> (try split) <;> simp
@[simp] theorem State.reportEnd_freeIndex (s : State) (q : BitVec 16) : (s.reportEnd q).freeIndex = s.freeIndex := by
  unfold State.reportEnd; split <;> (try split) <;> simp
@[simp] theorem State.reportEnd_params (s : State) (q : BitVec 16) : (s.reportEnd q).params = s.params := by
  unfold State.reportEnd; split <;> (try split) <;> simp
@[simp] theorem State.reportEnd_intake (s : State) (q : BitVec 16) : (s.reportEnd q).intake = s.intake := by
  unfold State.reportEnd; split <;> (try split) <;> simp
@[simp] theorem State.reportEnd_slots (s : State) (q : BitVec 16) : (s.reportEnd q).slots = s.slots := by
  unfold State.reportEnd; split <;> (try split) <;> simp
@[simp] theorem State.reportEnd_engine (s : State) (q : BitVec 16) : (s.reportEnd q).engine = s.engine := by
  unfold State.reportEnd; split <;> (try split) <;> simp
@[simp] theorem State.reportEnd_views (s : State) (q : BitVec 16) : (s.reportEnd q).views = s.views := by
  unfold State.reportEnd; split <;> (try split) <;> simp

@[simp] theorem State.exposureLost_pending (s : State) : (s.exposureLost).pending = s.pending := by
  simp [State.exposureLost]
@[simp] theorem State.exposureLost_now (s : State) : (s.exposureLost).now = s.now := by
  simp [State.exposureLost]
@[simp] theorem State.exposureLost_freeIndex (s : State) : (s.exposureLost).freeIndex = s.freeIndex := by
  simp [State.exposureLost]
@[simp] theorem State.exposureLost_params (s : State) : (s.exposureLost).params = s.params := by
  simp [State.exposureLost]
@[simp] theorem State.exposureLost_intake (s : State) : (s.exposureLost).intake = s.intake := by
  simp [State.exposureLost]
@[simp] theorem State.exposureLost_slots (s : State) : (s.exposureLost).slots = s.slots := by
  simp [State.exposureLost]
@[simp] theorem State.exposureLost_engine (s : State) : (s.exposureLost).engine = s.engine := by
  simp [State.exposureLost]
@[simp] theorem State.exposureLost_views (s : State) : (s.exposureLost).views = s.views := by
  simp [State.exposureLost]

@[simp] theorem State.reportBegin_pending (s : State) (q : BitVec 16) (i : Option SlotId) :
    (s.reportBegin q i).pending = s.pending := rfl
@[simp] theorem State.reportBegin_now (s : State) (q : BitVec 16) (i : Option SlotId) :
    (s.reportBegin q i).now = s.now := rfl
@[simp] theorem State.reportBegin_freeIndex (s : State) (q : BitVec 16) (i : Option SlotId) :
    (s.reportBegin q i).freeIndex = s.freeIndex := rfl
@[simp] theorem State.reportBegin_params (s : State) (q : BitVec 16) (i : Option SlotId) :
    (s.reportBegin q i).params = s.params := rfl
@[simp] theorem State.reportBegin_intake (s : State) (q : BitVec 16) (i : Option SlotId) :
    (s.reportBegin q i).intake = s.intake := rfl
@[simp] theorem State.reportBegin_slots (s : State) (q : BitVec 16) (i : Option SlotId) :
    (s.reportBegin q i).slots = s.slots := rfl
@[simp] theorem State.reportBegin_engine (s : State) (q : BitVec 16) (i : Option SlotId) :
    (s.reportBegin q i).engine = s.engine := rfl
@[simp] theorem State.reportBegin_views (s : State) (q : BitVec 16) (i : Option SlotId) :
    (s.reportBegin q i).views = s.views := rfl
@[simp] theorem State.reportBegin_lamps (s : State) (q : BitVec 16) (i : Option SlotId) :
    (s.reportBegin q i).lamps = s.lamps := rfl
@[simp] theorem State.reportBegin_guard (s : State) (q : BitVec 16) (i : Option SlotId) :
    (s.reportBegin q i).guard = s.guard := rfl
@[simp] theorem State.reportBegin_link (s : State) (q : BitVec 16) (i : Option SlotId) :
    (s.reportBegin q i).link = s.link := rfl

/-! ## The Link Unit as the sequencer moves -/

/-- An exposure starting latches events and no more in the Link Unit. -/
theorem State.startExposure_kept (s : State) (c : Cause) (t : Int) :
    s.link.KeptBy (s.startExposure c t).link := by
  unfold State.startExposure
  exact State.latch_kept _ _

@[simp] theorem State.startExposure_replyPlace (s : State) (c : Cause) (t : Int) :
    (s.startExposure c t).link.replyPlace = s.link.replyPlace := by
  simp [State.startExposure]

/-- An exposure starting leaves room for a REPLY. -/
theorem State.startExposure_room (s : State) (c : Cause) (t : Int)
    (h : s.link.management.length + bit s.link.replyPlace ≤ 32) :
    (s.startExposure c t).link.management.length
      + bit (s.startExposure c t).link.replyPlace ≤ 32 := by
  unfold State.startExposure
  exact State.latch_room _ _ h

/-- What an exposure's start makes of the Position and Trigger Unit (R101). -/
theorem State.startExposure_position (s : State) (c : Cause) (t : Int) :
    (s.startExposure c t).position = s.exposingUnit c t := by
  simp [State.startExposure]

/-- What an exposure's start makes of the Illumination Unit (R111, R114, R118). -/
theorem State.startExposure_lamps (s : State) (c : Cause) (t : Int) :
    (s.startExposure c t).lamps = s.exposedLamps c := by
  simp [State.startExposure]

/-- What an exposure's start makes of Lamp Protection (R109, R130, R143). -/
theorem State.startExposure_guard (s : State) (c : Cause) (t : Int) :
    (s.startExposure c t).guard = s.guard.windowOpened := by
  simp [State.startExposure]

/-- A window opens with sense progress 0, every segment free to light, and a running probe aborted in all
eight results (R109, R130, R143). -/
theorem LampProtection.windowOpened_eq (g : LampProtection) :
    g.windowOpened = { g with
      probe := if g.probe = .probing then .idle else g.probe
      results := if g.probe = .probing then Eight.all .aborted else g.results
      segments := g.segments.map fun x => { x with progress := 0, turnedOff := false } } := by
  unfold LampProtection.windowOpened LampProtection.abortProbe
  split <;> rfl

/-- A READY sequencer that has taken up the next exposure leaves no ARMED survey and no pending trigger
behind a READY state (R99). -/
theorem State.takeUpNext_ready (s : State) (h : s.takeUpNext.position.sequencer = .ready) :
    s.intake.survey ≠ .armed ∧ s.position.pendingTrigger = none := by
  unfold State.takeUpNext at h
  split at h
  · simp [State.startExposure_position, State.exposingUnit] at h
  · rename_i hs
    split at h
    · exact ⟨hs, by assumption⟩
    · simp [State.startExposure_position, State.exposingUnit] at h

end Sys2Proof.Machine
end

