-- ==== Sys2Proof/Laws/Events.lean ====
section
/-! SUPPORT. Events and replies reach the surface station: a latched event is reported by its latch or
by a STATUS cell that waits, and a REPLY placed is the last cell of the management queue. -/

namespace Sys2Proof.Machine

/-- The event latches a STATUS payload carries are those it was built with (TABLE 8-6). -/
theorem payloadHalf_status (s : State) (l : BitVec 15) :
    (payloadHalf (padPayload (statusContent s l)) 27).setWidth 15 = l := by
  have h0 : payloadByte (padPayload (statusContent s l)) 27 = BitVec.ofNat 8 (l.toNat / 2 ^ 8) := rfl
  have h1 : payloadByte (padPayload (statusContent s l)) 28 = BitVec.ofNat 8 l.toNat := rfl
  rw [payloadHalf, h0, h1]
  apply BitVec.eq_of_toNat_eq
  have := l.isLt
  simp only [BitVec.toNat_setWidth, BitVec.toNat_append, BitVec.toNat_ofNat]
  rw [← Nat.shiftLeft_add_eq_or_of_lt (by omega), Nat.shiftLeft_eq]
  omega

/-- A rebuilt STATUS cell carries the latches it held and those now set (R173). -/
theorem carriedLatches_rebuildStatus (s : State) (c : Cell) :
    carriedLatches (rebuildStatus s c) = carriedLatches c ||| s.link.latches :=
  payloadHalf_status _ _


/-- An occasion for a STATUS cell loses no event (R173). -/
theorem statusOccasion_reported {s : State} {k : EventKind} (h : s.latched k = true) :
    (s.setLink (statusOccasion s)).Reported k := by
  unfold statusOccasion
  split
  · rename_i hany
    obtain ⟨c, hc, hs⟩ := List.any_eq_true.mp hany
    refine .inr ⟨rebuildStatus s c, ?_, ?_, ?_⟩
    · exact List.mem_map.mpr ⟨c, hc, by simp [hs]⟩
    · exact of_decide_eq_true hs
    · rw [carriedLatches_rebuildStatus, BitVec.getLsbD_or]
      simp [show s.link.latches.getLsbD k.index = true from h]
  · split
    · exact .inl h
    · split
      · refine .inr ⟨createCell s.link .status 0 (statusContent s s.link.latches),
          List.mem_append_right _ (List.mem_singleton_self _), rfl, ?_⟩
        exact (congrArg (BitVec.getLsbD · k.index) (payloadHalf_status s s.link.latches)).trans h
      · exact .inl h

/-- The marks of several kinds hold the mark of each. -/
theorem eventMarks_getLsbD {ks : List EventKind} {k : EventKind} (h : k ∈ ks) :
    (eventMarks ks).getLsbD k.index = true := by
  induction ks with
  | nil => cases h
  | cons a rest ih =>
    simp only [eventMarks, List.foldr_cons, BitVec.getLsbD_or, Bool.or_eq_true]
    rcases List.mem_cons.mp h with rfl | h
    · left; cases k <;> rfl
    · exact .inr (ih h)

/-- Every event just latched is reported (R172, R173). -/
theorem State.latch_reported (s : State) {ks : List EventKind} {k : EventKind} (h : k ∈ ks) :
    (s.latch ks).Reported k := by
  have hl : (s.setLatches ks).latched k = true := by
    simp [State.latched, State.setLatches, eventMarks_getLsbD h]
  unfold State.latch
  split
  · exact statusOccasion_reported hl
  · exact .inl hl
/-- An event reported stays reported as a REPLY is placed. -/
theorem State.Reported.placeReply {s : State} {k : EventKind} (h : s.Reported k) (tag number : Byte)
    (a : Answer) : (s.placeReply tag number a).Reported k := by
  rcases h with h | ⟨c, hc, hk⟩
  · exact .inl h
  · exact .inr ⟨c, by simp [hc], hk⟩
/-- Latching nothing changes nothing. -/
@[simp] theorem State.latch_nil (s : State) : s.latch [] = s := by
  have : latchingCalls s [] = false := by simp [latchingCalls, eventMarks]
  simp [State.latch, this, State.setLatches, eventMarks, State.setLink]
/-- The REPLY placed is the last cell of the management queue. -/
theorem State.placeReply_replied (s : State) (tag number : Byte) (a : Answer) :
    (s.placeReply tag number a).Replied tag number a := ⟨rfl, _, rfl⟩
end Sys2Proof.Machine
end

