-- ==== Sys2Proof/Laws/Warp.lean ====
section
/-! SUPPORT. What an output row of the frame in hand is, in the raw view and through a bank (R28). -/

namespace Sys2Proof.Machine

/-- A map that always succeeds gives the list of its values. -/
theorem mapM_some_eq {α β : Type} (f : α → β) (l : List α) :
    (l.mapM fun x => some (f x)) = some (l.map f) := by
  induction l with
  | nil => rfl
  | cons a l ih => simp [ih]

/-- In the raw view an output row is the scaled pixels of the row (R19). -/
theorem State.outputRow_raw {s : State} {r : Run} {gx : Nat} (y : Nat) (hv : r.view = .raw)
    (hg : (s.slots.get r.slot).gx = some gx) :
    s.outputRow r y = some ((List.range r.wo).map fun x => rawPixel (s.slots.get r.slot) gx x y) := by
  simp only [State.outputRow, hg, hv, viewPixel]
  exact mapM_some_eq _ _

/-- Through a bank an output row is its corrected pixels (R8 to R17). -/
theorem State.outputRow_bank {s : State} {r : Run} {gx : Nat} {b : BankId} {h : Header} (y : Nat)
    (hv : r.view = .bank b) (hh : (s.views.get b).header = some h)
    (hg : (s.slots.get r.slot).gx = some gx) :
    s.outputRow r y = some ((List.range r.wo).map fun x =>
      bankPixel (s.views.get b) h (s.slots.get r.slot) gx x y) := by
  simp only [State.outputRow, hg, hv, viewPixel, hh, Option.map_some]
  exact mapM_some_eq _ _

end Sys2Proof.Machine
end

