-- ==== Sys2Proof/Tests/Slice0.lean ====
section
/-! SUPPORT. Tests of the model on single commands and events: well-formedness, worked cases of the
manual, and a state and operands that meet the hypotheses of each statement. -/

namespace Sys2Proof.Tests

open Sys2Proof Sys2Proof.Machine

/-! ## States to start from -/

/-- The state a command leads to. -/
def after (c : Instr) (s : State) : State :=
  match exec c s with
  | .next t => t
  | .fault _ => s
  | .refused _ => s

/-- A head at position 1 with both ports UP. -/
def linked : State :=
  { State.reset with link := { LinkUnit.reset with
      tether := { Port.reset with up := true }, chain := { Port.reset with up := true }
      position := some 1 } }

/-- The last head of a chain, at position 3: its chain port is DOWN. -/
def lastHead : State :=
  { linked with link := { linked.link with chain := Port.reset, position := some 3 } }

/-- A cell of a kind, with a payload of zeros. -/
def plainCell (kind : CellKind) : Cell :=
  { kind, source := 2, dest := 0, tag := 0, used := 0, payload := List.replicate 64 0 }

/-- A state whose management queue is full. -/
def crowded : State :=
  { linked with link := { linked.link with management := List.replicate 32 (plainCell .reply) } }

/-- An exposure in progress: SNAP taken at reset. -/
def exposing : State := after (.snap 0) State.reset

/-- The exposure over, its frame not begun. -/
def awaiting : State := after .exposureEnd exposing

/-- The frame of the exposure being filled into a slot. -/
def filling : State := after .frameBegin awaiting

/-- A frame record as a full-length SNAP exposure makes it. -/
def snapRecord : FrameRecord :=
  { sequence := 0, cause := .snap, tag := 0, position := 0, mode := .travel, eEff := 2000, gx := 256
    applied := Eight.all 0, markers := Eight.all none, dark := false, derated := false
    shutdown := false, ledFault := false, skippedBefore := 0, repaired := 0, unrepaired := 0
    short := false }

/-- A slot of 256 × 256 whose frame is READY. -/
def readySlot : Slot :=
  { state := .ready, ws := 256, hs := 256, black := 64, rows := [], record := some snapRecord }

/-- One frame READY in slot 0. -/
def frameReady : State :=
  { State.reset with
    slots := { SlotPool.reset with slot0 := readySlot, readyOrder := [.slot0] } }

/-- The engine RUNNING on that frame, its FRAME START next. -/
def running : State := after .warpFrameStart frameReady

/-- The running engine with another item next. -/
def runningAt (next : NextPlace) : State :=
  { running with engine := { running.engine with
      run := running.engine.run.map fun r => { r with next } } }

/-- A bank of 128 × 128 opened, and closed for its check. -/
def opened : State := after (.tableOpen 0 0 128 128 0 (List.replicate 8 32)) State.reset
def checking : State := after (.tableClose 0 0) opened

/-- A bank in a state with the header of 128 × 128. -/
def bankIn (state : BankState) : Bank :=
  { Bank.emptied with
    state, header := some { wo := 128, ho := 128, fill := 0, label := List.replicate 8 32 } }

/-- Bank 1 VALID beside an ACTIVE bank 0. -/
def banked : State :=
  { State.reset with
    views := { ViewBankStore.reset with bank0 := bankIn .active, bank1 := bankIn .valid } }

/-- A segment TUNING at trial 1 of cycle length 10 from a staged duty of 300. -/
def tuningDrive : SegmentDrive :=
  { SegmentDrive.reset with staged := 512, tune := .tuning 1 512 none 300 }

/-- Segment 4 TUNING, the others STEADY. -/
def tuningState : State :=
  { State.reset with lamps := { IlluminationUnit.reset with
      segments := IlluminationUnit.reset.segments.set 4 tuningDrive } }

/-- An exposure with segment 3 lit at half duty. -/
def lit : State :=
  after (.snap 0) { State.reset with lamps := { IlluminationUnit.reset with
      segments := IlluminationUnit.reset.segments.set 3 { SegmentDrive.reset with staged := 512 } } }

/-- The head at rest in a mode. -/
def restingIn (mode : MotionMode) : State :=
  { State.reset with position := { PositionUnit.reset with mode, restPosition := some 0 } }

/-- The odometer at a position, its last trigger point at another. -/
def standingAt (p l : Int) (mode : MotionMode) : State :=
  { State.reset with position := { PositionUnit.reset with
      p, l, mode, restPosition := if mode = .travel then none else some 0 } }

/-! ## Well-formedness: a term each check refuses -/

theorem test_wf_command_cell_payload :
    WellFormed (.commandCell 0 1 0 0 (List.replicate 63 0)) = false
      ∧ WellFormed (.commandCell 0 1 0 0 (List.replicate 64 0)) = true := by decide

theorem test_wf_roll_call_payload :
    WellFormed (.rollCall 0 0 0 0 []) = false
      ∧ WellFormed (.rollCall 0 0 0 0 (List.replicate 64 0)) = true := by decide

theorem test_wf_upward_payload :
    WellFormed (.upwardCellReceipt { plainCell .row with payload := [1] }) = false
      ∧ WellFormed (.upwardCellReceipt (plainCell .row)) = true := by decide

theorem test_wf_received_bytes :
    WellFormed (.cellError .tether (List.replicate 69 0)) = false
      ∧ WellFormed (.cellError .tether (List.replicate 70 0)) = true := by decide

theorem test_wf_label :
    WellFormed (.tableOpen 0 0 128 128 0 (List.replicate 7 32)) = false
      ∧ WellFormed (.tableOpen 0 0 128 128 0 (List.replicate 8 32)) = true := by decide

theorem test_wf_segment :
    WellFormed (.tableData 0 64 0 1 0 (List.replicate 59 0)) = false
      ∧ WellFormed (.tableData 0 3 0 1 0 (List.replicate 60 0)) = false
      ∧ WellFormed (.tableData 0 65 0 1 0 (List.replicate 60 0)) = false
      ∧ WellFormed (.tableData 0 4 0 1 0 (List.replicate 60 1)) = false
      ∧ WellFormed (.tableData 0 64 0 1 0 (List.replicate 60 1)) = true := by decide

/-! ## Command decode, from the layouts of TABLE 8-7 -/

theorem test_no_table_word : decodeTableWord 8 0 = none := by decide

/-- SET of SOURCE WIDTH to 1000: number 2, identifier 1, segment 0, value in bytes 3 to 6. -/
theorem test_decode_set :
    decodeCommand 9 7 (padPayload [2, 1, 0, 0, 0, 0x03, 0xe8]) = .run (.setSourceWidth 9 1000) := by
  decide

/-- TABLE OPEN of bank 1, 640 by 512, FILL 0. -/
theorem test_decode_table_open :
    decodeCommand 1 16 (padPayload ([3, 1, 0x02, 0x80, 0x02, 0x00, 0, 0] ++ List.replicate 8 0x41))
      = .run (.tableOpen 1 1 640 512 0 (List.replicate 8 0x41)) := by decide

/-- DEFECT ADD of row 100, column 201, method Q (code 2): row in bits 23..14, column in bits 13..3,
method in bits 2..1 of the entry of TABLE 8-3. -/
theorem test_decode_defect_add :
    decodeCommand 2 4 (padPayload [8, 0x19, 0x06, 0x4c]) = .run (.defectAdd 2 100 201 2) := by decide

/-- An unknown number, a short cell, an unknown item. -/
theorem test_decode_answers :
    decodeCommand 0 1 (padPayload [20]) = .answer 20 .unknownCommand
      ∧ decodeCommand 0 6 (padPayload [2, 1]) = .answer 2 .badValue
      ∧ decodeCommand 0 2 (padPayload [1, 11]) = .answer 1 .noSuchItem := by decide

/-- The generator and start value of R147 on the digits 1 to 9: the published check value of that CRC. -/
theorem test_check_sequence :
    checkSequence [0x31, 0x32, 0x33, 0x34, 0x35, 0x36, 0x37, 0x38, 0x39] = 0x29b1 := by decide +kernel

/-! ## Worked cases of Chapters 1 and 2 -/

/-- Section 1.6: the four corner means of pixel (37, 18), TABLE 1-4. -/
theorem test_pixel_interior_means :
    cornerMean 16 5 2 9600 9920 9616 9940 = 9702 ∧ cornerMean 16 5 2 4800 4810 5120 5130 = 4843
      ∧ cornerMean 16 6 11 1000 1040 1100 1160 = 1089
      ∧ cornerMean 64 37 18 1024 1280 1100 1400 = 1201 := by decide

/-- Section 1.6: the output value at Gx = 320 and at full exposure. -/
theorem test_pixel_interior_value :
    outputValue 1089 1201 320 = 399 ∧ outputValue 1089 1201 256 = 319 := by decide

/-- Section 1.7: the coordinates of the pixels (634, 37) and (639, 37), the second clamped. -/
theorem test_pixel_right_edge :
    cornerMean 16 10 5 16200 16480 16208 16488 = 16378 ∧ splitCoordinate 1024 16378 = (1023, 10)
      ∧ cornerMean 16 15 5 16200 16480 16208 16488 = 16465 ∧ splitCoordinate 1024 16465 = (1023, 0)
      ∧ cornerMean 16 10 5 3200 3200 3460 3460 = 3281 ∧ splitCoordinate 1024 3281 = (205, 1)
      ∧ outputValue 2003 1024 256 = 501 := by decide

/-- TABLE 2-4: a mean rounded down, GLARE beyond one pixel in eight, UNSEEN with no pixel. -/
theorem test_zone_results :
    ({ sum := 1150000, count := 2048, fullScale := 200 } : ZoneAccumulator).result
        = { mean := 561, count := 2048, unseen := false, glare := false }
      ∧ ({ sum := 700000, count := 1024, fullScale := 128 } : ZoneAccumulator).result
        = { mean := 683, count := 1024, unseen := false, glare := false }
      ∧ ({ sum := 1200000, count := 2048, fullScale := 257 } : ZoneAccumulator).result
        = { mean := 585, count := 2048, unseen := false, glare := true }
      ∧ ({ sum := 0, count := 0, fullScale := 0 } : ZoneAccumulator).result
        = { mean := 0, count := 0, unseen := true, glare := false } := by decide

/-- Four pixels in five bytes, most significant bit first (TABLE 8-5): 1023, 0, 1, 512. -/
theorem test_pack_pixels : packPixels [1023, 0, 1, 512] = [0xff, 0xc0, 0x00, 0x06, 0x00] := by
  decide

/-! ## Worked cases of Chapters 3 and 4 -/

/-- R41: 100 is taken as 128, 700 as 640, 1000 as 960, 2000 as 1024, a FILL of 1500 as 1023. -/
theorem test_table_open_sizes :
    [100, 700, 1000, 2000].map takeSize = [128, 640, 960, 1024]
      ∧ (takeHeader 640 512 1500 []).fill = 1023 := by decide

/-- Section 1.6: a 640 × 512 view has 41 × 33 nodes, 40 × 32 zone entries and 11 × 9 gain nodes. -/
theorem test_part_sizes :
    let h : Header := { wo := 640, ho := 512, fill := 0, label := [] }
    [TablePart.mesh, .zone, .gain].map h.entries = [1353, 1280, 99] := by decide

/-- A check with nothing received finds mesh segment 0 missing (R48). -/
theorem test_check_incomplete :
    (after (.tableCheckCompletion .bank0) checking).views.verdict
        = { bank := some .bank0, verdict := .incomplete .mesh 0, raster := some (1280, 1024) } := by
  decide

/-- TABLE 4-7: the means of three, one and one usable neighbours. -/
theorem test_substitution_means :
    roundedMean [510, 520, 530] = 520 ∧ roundedMean [570] = 570 ∧ roundedMean [1, 2] = 2 := by
  decide

/-- TABLE 4-7: pixel (100, 201) leaves out its listed right neighbour, pixel (500, 700) both of its. -/
theorem test_usable_neighbours :
    let list : List DefectEntry :=
      [⟨0, 5, .v, .loaded⟩, ⟨100, 201, .q, .loaded⟩, ⟨100, 202, .h, .loaded⟩,
        ⟨500, 699, .h, .loaded⟩, ⟨500, 700, .h, .loaded⟩, ⟨500, 701, .h, .loaded⟩]
    let slot : Slot := { Slot.freed with ws := 1024, hs := 1024 }
    usableNeighbours list slot ⟨100, 201, .q, .loaded⟩ = [(100, 200), (99, 201), (101, 201)]
      ∧ usableNeighbours list slot ⟨500, 700, .h, .loaded⟩ = []
      ∧ usableNeighbours list slot ⟨0, 5, .v, .loaded⟩ = [(1, 5)] := by decide

/-- Section 4.8.1 in small: an ADD beside a merge raises the peak that the merge is held to. -/
theorem test_merge_passes_named :
    let u : SensorIntake := { SensorIntake.reset with
      edits := [.add 40 50 .q], survey := .collecting 256 [(3, 900), (40, 50), (77, 12)] 0 }
    (u.frameDone 5).lastSurvey = some { added := 2, overflow := 0, sequence := 5 }
      ∧ peakSize (u.frameDone 5).defects u.edits = 3 := by decide

/-- Black level 64 (R68), and a line padded with its last pixel (R65). -/
theorem test_line_row :
    lineRow { readySlot with ws := 4 } [64, 100, 10] = { pixels := [0, 36, 0, 0], received := 3 } := by
  decide

/-! ## Worked cases of Chapter 5 -/

/-- Section 5.2: from (0, 0) the changes to (1, 0) and (1, 1) count forward, a glitch to (0, 0) counts
nothing, and (0, 1) then counts backward. -/
theorem test_odometer_sequence :
    (after (.odometerCount .phaseB) (after .odoGlitch (after (.odometerCount .phaseB)
      (after (.odometerCount .phaseA) State.reset)))).position.p = 1 := by decide

/-- TABLE 5-3: re-bases of L, down to a negative position. -/
theorem test_trigger_step_rebase :
    (after (.setTriggerStep 0 500) (standingAt 1234 1200 .travel)).position.l = 1000
      ∧ (after (.setTriggerStep 0 200) (standingAt (-450) 0 .travel)).position.l = -600 := by
  decide

/-- TABLE 5-7: effective exposure and compensation. -/
theorem test_effective_exposure :
    let at' := fun (e lb v : Nat) => { State.reset with
      params := { Parameters.default with exposure := e, blurLimit := lb }
      position := { PositionUnit.reset with speed := v } }
    [at' 2000 2 1250, at' 2000 2 125000, at' 2000 2 0, at' 2000 2 3000, at' 1000 2 1250,
        at' 2000 0 125000].map State.eEff = [1600, 50, 2000, 666, 1000, 2000]
      ∧ [1600, 50, 2000, 800, 666].map (compensation 2000) = [320, 1024, 256, 640, 768] := by
  decide

/-- A speed window: ten counts in 8 ms read as 1250 counts/s (R88, TABLE 5-7). -/
theorem test_speed_window : (after .speedWindow (standingAt 10 0 .travel)).position.speed = 1250 := by
  decide

/-- A SNAP at reset starts exposure 0, and the next takes number 1 (R101). -/
theorem test_snap_starts :
    exposing.position.sequencer = .exposing ∧ exposing.position.nextSequence = 1
      ∧ exposing.position.triggerLine = true := by decide

/-! ## Worked cases of Chapters 6 and 7 -/

/-- TABLE 6-3: rescaled duties. -/
theorem test_rescaled_duties :
    [0, 1, 513, 871, 1024].map (rescaleDuty · 10 8) = [0, 0, 128, 217, 256]
      ∧ [0, 1, 513, 871, 1024].map (rescaleDuty · 10 11) = [0, 2, 1026, 1742, 2048] := by
  decide

/-- The settings of section 6.6. -/
def searchHandOver : HandOver :=
  { n := 10, target := 512, band := 128, beta := 16, holdoff := 64, autoRetune := false
    thermal := .normal, record := snapRecord }

/-- TABLE 6-6: below, not below, equal counts as not below. -/
theorem test_next_duty :
    let seen := fun (m : Nat) => ({ mean := m, count := 1, unseen := false, glare := false } : ZoneResult)
    searchHandOver.nextDuty 1 512 (seen 300) = 768 ∧ searchHandOver.nextDuty 3 896 (seen 525) = 832
      ∧ searchHandOver.nextDuty 7 872 (seen 512) = 868
      ∧ searchHandOver.nextDuty 9 870 (seen 511) = 871
      ∧ searchHandOver.verdict 871 511 = .ok ∧ searchHandOver.verdict 1023 500 = .atTop := by
  decide

/-- TABLE 6-7: the reference through its frames. -/
theorem test_moved_reference :
    [(480, 520), (483, 400), (478, 400), (473, 400), (468, 400), (464, 400)].map
        (fun x => searchHandOver.movedReference x.1 x.2) = [483, 478, 473, 468, 464, 460] := by
  decide

/-- Section 6.1 and TABLE 7-2: on-steps within a window, and the sense window's close at step 1472. -/
theorem test_on_steps :
    onSteps 10 512 96000 = 48128 ∧ onSteps 11 1024 2400 = 1376 ∧ onSteps 10 10 96000 = 940
      ∧ onSteps 8 95 2400 = 950 ∧ senseCloseStep 10 512 = 1472 ∧ senseCloseStep 10 1024 = 960 := by
  decide

/-- TABLE 7-4 at its levels. -/
theorem test_thermal_levels :
    [104, 105, 124, 125].map (thermalNext .normal) = [.normal, .derate, .derate, .shutdown]
      ∧ [94, 95, 125].map (thermalNext .derate) = [.normal, .derate, .shutdown]
      ∧ [90, 114, 115].map (thermalNext .shutdown) = [.derate, .derate, .shutdown] := by
  decide

/-- TABLE 7-3: the second sensed exposure below threshold finds the open string. -/
theorem test_open_string_found :
    let g : SegmentGuard := { SegmentGuard.reset with openCount := 1 }
    SegmentGuard.reset.tested .off 4999 3000 = { SegmentGuard.reset with progress := 960, openCount := 1 }
      ∧ g.tested .off 4999 3000
        = { SegmentGuard.reset with progress := 960, openLatch := true, disabled := true } := by
  decide

/-! ## Worked cases of Chapters 8 to 10 -/

/-- TABLE 8-10 at head 3: destination 4 is answered NO SUCH HEAD under source 3 with the tag. -/
theorem test_no_such_head :
    ((after (.commandCell 0 4 12 2 (padPayload [1, 1])) lastHead).link.management.map fun c =>
        (c.kind, c.source, c.tag, c.payload.take 4)) = [(.reply, 3, 12, [1, 7, 8, 4])] := by
  decide

/-- TABLE 8-10 at head 1: destination 2 is forwarded, destination 0 is a tether cell error. -/
theorem test_forwarded_or_discarded :
    (after (.commandCell 0 2 10 2 (padPayload [1, 1])) linked).link.downForward.length = 1
      ∧ (after (.commandCell 0 0 14 2 (padPayload [1, 1])) linked).link.counters.tetherCellErrors = 1 := by
  decide

/-- TABLE 9-1: the first head takes position 1 and passes the cell on with used length 14. -/
theorem test_roll_call_first_head :
    let t := after (.rollCall 0 0 40 2 (padPayload [0, 0])) { linked with
      link := { linked.link with position := none } }
    t.link.position = some 1 ∧ t.link.downForward.map (fun c => (c.kind, c.tag, c.used))
      = [(.rollCall, 40, 14)] := by decide

/-- TABLE 8-11: HOLD is sent as the up-forward queue reaches 96 and GO as it falls to 64. -/
theorem test_up_forward_hold :
    let at' := fun (n : Nat) => { linked with link := { linked.link with
      upForward := List.replicate n (plainCell .row) } }
    (after (.upwardCellReceipt (plainCell .row)) (at' 94)).link.chain.holdSent = false
      ∧ (after (.upwardCellReceipt (plainCell .row)) (at' 95)).link.chain.holdSent = true := by
  decide

/-- SOURCE WIDTH 1000 is taken as 992 and 100 as 256 (R170). -/
theorem test_source_width :
    (after (.setSourceWidth 0 1000) State.reset).params.sourceWidth = 992
      ∧ (after (.setSourceWidth 0 100) State.reset).params.sourceWidth = 256 := by decide

/-! ## Hypotheses met: commands -/

theorem placeFree_reset : State.reset.PlaceFree := ⟨by decide, by decide⟩

theorem placeFree_linked : linked.PlaceFree := ⟨by decide, by decide⟩

theorem test_IdleStepsAndEventsOutOfPlace :
    (State.reset.pending = [] ∧ State.reset.position.openWindow = none)
      ∧ (∃ e, lit.pending = [] ∧ lit.position.openWindow = some e
        ∧ (lit.guard.segments.get 3).turnedOff = false ∧ (lit.guard.segments.get 3).progress < 960)
      ∧ ((State.reset.views.get .bank0).state ≠ .checking ∧ State.reset.slots.readyOrder = []
        ∧ State.reset.engine.run = none ∧ (restingIn .parked).position.mode ≠ .travel
        ∧ State.reset.position.mode ≠ .dwell ∧ State.reset.position.mode = .travel
        ∧ State.reset.position.sequencer ≠ .exposing ∧ State.reset.position.sequencer ≠ .awaitingFrame
        ∧ State.reset.guard.probe ≠ .probing) :=
  ⟨by decide, ⟨_, by decide, rfl, by decide, by decide⟩, by decide⟩

theorem test_ResetStateKeepsInvariants :
    State.reset.pending = [] ∧ State.reset.freeIndex = 0 := by decide

theorem test_CommandsAreAnsweredOrDropped :
    ({ code := .done, content := List.replicate 61 0 } : Answer).content.length ≤ 61
      ∧ (numbered (.readStatus 0)).isSome = true ∧ 32 ≤ crowded.link.management.length := by decide

theorem test_ReadsAnswerAndChangeNothing :
    State.reset.PlaceFree ∧ (7 : Byte).toNat = (7 : Fin 8).val ∧ 8 ≤ (8 : Byte).toNat
      ∧ ((24 : Byte) ≠ 14 ∧ parameterValue State.reset 24 = some 32767)
      ∧ 24 < (25 : Byte).toNat :=
  ⟨placeFree_reset, by decide, by decide, by decide, by decide⟩

/-- Labels of eight characters, a known overflow count, an entry listed, and a number beyond 24. -/
theorem test_ReadContentsFollowTheTables :
    let surveyed := { SensorIntake.reset with
      defects := [⟨100, 201, .q, .loaded⟩]
      lastSurvey := some { added := 1, overflow := 65535, sequence := 5 } }
    (∀ k h, (banked.views.get k).header = some h → h.label.length = 8)
      ∧ (banked.views.get .bank1).header.isSome = true
      ∧ (State.reset.views.get .bank0).header = none
      ∧ (surveyed.lastSurvey.map SurveyResult.overflow = some 65535
        ∧ surveyed.defects[0 + 0]? = some ⟨100, 201, .q, .loaded⟩
        ∧ 0 < min 15 (surveyed.defects.length - 0))
      ∧ 24 < 25 := by
  refine ⟨fun k h => ?_, by decide, by decide, by decide, by decide⟩
  cases k <;> rintro ⟨⟩ <;> decide

/-- READ DEFECT ENTRIES of that list by TABLE 8-9 and TABLE 8-3: one entry, no edit, projected size 1, no
survey, the last one's 1 added, 65535 overflowed, sequence 5, and row 100, column 201, method Q. -/
theorem test_defect_entries :
    defectEntriesContent { SensorIntake.reset with
        defects := [⟨100, 201, .q, .loaded⟩]
        lastSurvey := some { added := 1, overflow := 65535, sequence := 5 } } 0
      = [0, 1, 0, 0, 1, 0, 1, 0, 1, 0xff, 0xff, 0, 5, 1, 0x19, 0x06, 0x4c] := by decide

theorem test_SetClampsAndStoresNumbers :
    (0 < 16 ∧ 256 ≤ 1280 ∧ 256 % 16 = 0) ∧ State.reset.PlaceFree := ⟨by decide, placeFree_reset⟩

/-- A state with the clock at a moment. -/
def atMoment (now : Nat) (s : State) : State := { s with now }

/-- The exposure that starts at once, by its cause and tag. -/
def causeAndTag (s : State) : Option (Cause × Int) :=
  s.position.outstanding.map fun r => (r.cause, r.tag)

/-- The dwell timeout set with 100 ms passed since the last count, with the TIME trigger due at the entry
and the park timeout passed; and one not yet met. -/
theorem test_SetMotionParametersActAtOnce :
    let s := atMoment 4800000 State.reset
    let late := atMoment 2880000000 { State.reset with
      position := { PositionUnit.reset with timeReference := some 0 } }
    s.PlaceFree ∧ s.position.mode = .travel
      ∧ s.position.lastCount + 4800000 * min 600 (1 : Word).toNat ≤ s.now
      ∧ (after (.setDwellTimeout 0 1) s).position.mode = .dwell
      ∧ (after (.setDwellTimeout 0 2) s).position.mode = .travel
      ∧ (late.position.timeReference.getD late.now + 48000 * late.params.dwellInterval ≤ late.now
        ∧ late.position.lastCount + 48000000 * late.params.parkTimeout ≤ late.now)
      ∧ (after (.setDwellTimeout 0 1) late).position.mode = .parked
      ∧ causeAndTag (after (.setDwellTimeout 0 1) late) = some (.time, 0) :=
  ⟨⟨by decide, by decide⟩, by decide, by decide, by decide, by decide, by decide, by decide, by decide⟩

/-- DWELL INTERVAL 20 ms met at 20 ms and one step short of it; PARK INTERVAL 1 s the same. -/
theorem test_SetMotionParametersActAtOnce_intervals :
    (restingIn .dwell).PlaceFree
      ∧ causeAndTag (after (.setDwellInterval 0 20) (atMoment 960000 (restingIn .dwell))) = some (.time, 0)
      ∧ causeAndTag (after (.setDwellInterval 0 20) (atMoment 959999 (restingIn .dwell))) = none
      ∧ causeAndTag (after (.setParkInterval 0 1) (atMoment 48000000 (restingIn .parked)))
        = some (.time, 0)
      ∧ causeAndTag (after (.setParkInterval 0 1) (atMoment 47999999 (restingIn .parked))) = none :=
  ⟨⟨by decide, by decide⟩, by decide, by decide, by decide, by decide⟩

/-- PARK TIMEOUT 1 s met at 1 s and not one step earlier. -/
theorem test_SetMotionParametersActAtOnce_park :
    (after (.setParkTimeout 0 1) (atMoment 48000000 (restingIn .dwell))).position.mode = .parked
      ∧ (after (.setParkTimeout 0 1) (atMoment 47999999 (restingIn .dwell))).position.mode = .dwell := by
  decide

/-- A wake by SET of WAKE DISTANCE: a creep short of L + STEP = 200 and L - STEP = -200 triggers nothing, one
that reaches them triggers at the greatest multiple of 200 passed (R91). -/
theorem test_SetMotionParametersActAtOnce_wake :
    let woken := fun (p : Int) => after (.setWakeDistance 0 5) (standingAt p 0 .dwell)
    (woken 4).position.mode = .dwell ∧ (woken 5).position.mode = .travel
      ∧ [5, 199, -199].map (fun p => causeAndTag (woken p)) = [none, none, none]
      ∧ [200, 450, -200, -450].map (fun p => causeAndTag (woken p))
        = [some (.distance, 200), some (.distance, 400), some (.distance, -200),
          some (.distance, -400)] := by decide

theorem test_SetCycleWaitsAndDutyIsStaged :
    tuningState.PlaceFree ∧ 8 ≤ (8 : Byte).toNat ∧ (4 : Byte).toNat = (4 : Fin 8).val
      ∧ (tuningState.lamps.segments.get 4).isTuning = true
      ∧ (tuningState.lamps.segments.get 5).isTuning = false :=
  ⟨⟨by decide, by decide⟩, by decide, by decide, by decide, by decide⟩

/-- Bank 1 VALID and the target of a pending commit. -/
def committed : State := { banked with views := { banked.views with pendingView := some (.bank .bank1) } }

theorem test_TableOpenOutcomes :
    (banked.PlaceFree ∧ 2 ≤ (2 : Byte).toNat ∧ (banked.views.get .bank0).state = .active
        ∧ (banked.views.get .bank1).state = .valid
        ∧ banked.views.pendingView ≠ some (.bank .bank1))
      ∧ (committed.PlaceFree ∧ (committed.views.get .bank1).state = .valid
        ∧ committed.views.pendingView = some (.bank .bank1))
      ∧ (checking.PlaceFree ∧ (checking.views.get .bank0).state = .checking)
      ∧ (opened.PlaceFree ∧ (opened.views.get .bank0).state = .opened
        ∧ (opened.views.get .bank1).state = .empty) :=
  ⟨⟨⟨by decide, by decide⟩, by decide, by decide, by decide, by decide⟩,
    ⟨⟨by decide, by decide⟩, by decide, by decide⟩, ⟨⟨by decide, by decide⟩, by decide⟩,
    ⟨⟨by decide, by decide⟩, by decide, by decide⟩⟩

/-- A mesh of 81 nodes has six segments of fifteen: 5 is the last number. -/
theorem test_TableDataIsJudgedInOrder :
    let h : Header := { wo := 128, ho := 128, fill := 0, label := List.replicate 8 32 }
    opened.PlaceFree ∧ 2 ≤ (2 : BitVec 4).toNat ∧ (0 : BitVec 4).toNat = 0 ∧ 4 ≤ (4 : BitVec 4).toNat
      ∧ (State.reset.views.get .bank0).state ≠ .opened
      ∧ ((opened.views.get .bank0).state = .opened ∧ (opened.views.get .bank0).header = some h)
      ∧ h.segments .mesh ≤ (6 : BitVec 16).toNat
      ∧ ((5 : BitVec 16).toNat < h.segments .mesh ∧ (63 : Byte).toNat < 64 ∧ 64 ≤ (64 : Byte).toNat) :=
  ⟨⟨by decide, by decide⟩, by decide, by decide, by decide, by decide, by decide, by decide, by decide⟩

theorem test_StoredSegmentReadsBack : (List.replicate 60 (0 : Byte)).length = 60 := by decide

theorem test_ChecksBeginAndComplete :
    (opened.PlaceFree ∧ 2 ≤ (2 : Byte).toNat ∧ (opened.views.get .bank0).state = .opened
        ∧ (opened.views.get .bank1).state ≠ .opened)
      ∧ ((checking.views.get .bank0).state = .checking
        ∧ (checking.views.get .bank0).header.isSome = true
        ∧ (checking.views.get .bank0).checkRaster = some (1280, 1024)) :=
  ⟨⟨⟨by decide, by decide⟩, by decide, by decide, by decide⟩, by decide⟩

theorem test_ViewChangesWait :
    (banked.PlaceFree ∧ 2 ≤ (2 : Byte).toNat ∧ (banked.views.get .bank0).state = .active
        ∧ (banked.views.get .bank1).state = .valid)
      ∧ (State.reset.PlaceFree ∧ (State.reset.views.get .bank0).state = .empty) :=
  ⟨⟨⟨by decide, by decide⟩, by decide, by decide, by decide⟩, placeFree_reset, by decide⟩

/-- One entry listed at (5, 7), the other at (9, 3). -/
def twoDefects : List DefectEntry := [⟨5, 7, .q, .loaded⟩, ⟨9, 3, .h, .learned⟩]

/-- A state with that list and some edits queued. -/
def defective (edits : List Edit) : State :=
  { State.reset with intake := { SensorIntake.reset with defects := twoDefects, edits } }

/-- A state with a list of 512 entries. -/
def fullList : State :=
  { State.reset with intake := { SensorIntake.reset with
      defects := List.replicate 512 ⟨1, 1, .q, .loaded⟩ } }

theorem test_DefectEditsAreJudged :
    (1279 < (1280 : BitVec 11).toNat ∧ (1279 : BitVec 11).toNat ≤ 1279 ∧ (2 : BitVec 2) ≠ 3)
      ∧ ((defective (List.replicate 16 (.clear false))).PlaceFree
        ∧ 16 ≤ (defective (List.replicate 16 (.clear false))).intake.edits.length)
      ∧ ((defective []).PlaceFree ∧ (defective []).intake.edits.length < 16
        ∧ (∃ e ∈ applyEdits twoDefects [], e.row = (5 : BitVec 10).toNat ∧ e.column = (7 : BitVec 11).toNat)
        ∧ (¬∃ e ∈ applyEdits twoDefects [], e.row = (5 : BitVec 10).toNat ∧ e.column = (8 : BitVec 11).toNat)
        ∧ (applyEdits twoDefects []).length < 512)
      ∧ (fullList.PlaceFree ∧ 512 ≤ (applyEdits fullList.intake.defects fullList.intake.edits).length
        ∧ ¬∃ e ∈ applyEdits fullList.intake.defects fullList.intake.edits, e.row = 2 ∧ e.column = 2)
      ∧ (2 ≤ (2 : Byte).toNat ∧ (1 : Byte).toNat < 2) := by
  refine ⟨by decide, ⟨⟨by decide, by decide⟩, by decide⟩,
    ⟨⟨by decide, by decide⟩, by decide, by decide, by decide, by decide⟩,
    ⟨⟨by decide, by decide⟩, ?_, ?_⟩, by decide⟩
  · exact (List.length_replicate ..).ge
  · rintro ⟨e, he, h⟩
    rw [List.eq_of_mem_replicate he] at h
    exact absurd h (by decide)

/-- A survey collecting on a frame, with two candidates, one of them named by a queued ADD. -/
def collecting : SensorIntake :=
  { SensorIntake.reset with
    intake := .filling .slot0, defects := twoDefects, edits := [.add 5 9 .h]
    survey := .collecting 256 [(5, 9), (10, 0)] 0 }

theorem test_EditsAndMergesKeepTheOrder :
    (twoDefects.Pairwise DefectEntry.Before ∧ ∀ e ∈ twoDefects, ¬(e.row = 5 ∧ e.column = 8))
      ∧ SensorIntake.reset.survey = .idle
      ∧ (collecting.survey = .collecting 256 [(5, 9), (10, 0)] 0
        ∧ collecting.defects.Pairwise DefectEntry.Before
        ∧ peakSize collecting.defects collecting.edits ≤ 512
        ∧ ([(5, 9), (10, 0)].Pairwise fun a b : Nat × Nat => a.1 < b.1 ∨ (a.1 = b.1 ∧ a.2 < b.2))
        ∧ ∀ c ∈ [(5, 9), (10, 0)], ∀ e ∈ collecting.defects, ¬(e.row = c.1 ∧ e.column = c.2)) := by
  have sorted : twoDefects.Pairwise DefectEntry.Before := by
    simp [twoDefects, DefectEntry.Before]
  exact ⟨⟨sorted, by decide⟩, by decide, by decide, sorted, by decide, by decide, by decide⟩

theorem test_DarkSurveyArms :
    let armed := { State.reset with intake := { SensorIntake.reset with survey := .armed } }
    (armed.PlaceFree ∧ armed.intake.survey ≠ .idle)
      ∧ (exposing.PlaceFree ∧ exposing.intake.survey = .idle ∧ exposing.position.sequencer ≠ .ready)
      ∧ (State.reset.PlaceFree ∧ State.reset.intake.survey = .idle
        ∧ State.reset.position.sequencer = .ready) :=
  ⟨⟨⟨by decide, by decide⟩, by decide⟩, ⟨⟨by decide, by decide⟩, by decide, by decide⟩,
    placeFree_reset, by decide, by decide⟩

/-- A masked segment that is TUNING, one that is DISABLED and one that is free to start. -/
theorem test_TuneStartsAtHalfDuty :
    let s := { tuningState with guard := { LampProtection.reset with
      segments := LampProtection.reset.segments.set 5 { SegmentGuard.reset with disabled := true } } }
    s.PlaceFree ∧ (s.tuneOutcomes 0x70).get 4 = .inProgress ∧ (s.tuneOutcomes 0x70).get 5 = .fault
      ∧ (s.tuneOutcomes 0x70).get 6 = .started :=
  ⟨⟨by decide, by decide⟩, by decide, by decide, by decide⟩

theorem test_SimpleCommandsHaveOneEffect :
    State.reset.PlaceFree ∧ 1 ≤ State.reset.params.wakeDistance := ⟨placeFree_reset, by decide⟩

theorem test_ProbeStartsAndCompletes :
    let probing := after (.probe 0) State.reset
    (exposing.PlaceFree ∧ exposing.guard.probe = .idle ∧ exposing.position.sequencer = .exposing)
      ∧ (State.reset.PlaceFree ∧ State.reset.guard.probe = .idle
        ∧ State.reset.position.sequencer ≠ .exposing)
      ∧ (probing.PlaceFree ∧ probing.guard.probe ≠ .idle)
      ∧ (probing.guard.probe = .probing ∧ probing.position.sequencer ≠ .exposing) :=
  ⟨⟨⟨by decide, by decide⟩, by decide, by decide⟩, ⟨placeFree_reset, by decide, by decide⟩,
    ⟨⟨by decide, by decide⟩, by decide⟩, by decide, by decide⟩

theorem test_SnapStartsOrPends :
    let twice := after (.snap 0) exposing
    (State.reset.PlaceFree ∧ State.reset.position.sequencer = .ready
        ∧ State.reset.intake.survey ≠ .armed)
      ∧ (exposing.PlaceFree ∧ exposing.position.sequencer ≠ .ready
        ∧ exposing.position.pendingTrigger = none)
      ∧ (twice.PlaceFree ∧ twice.position.sequencer ≠ .ready
        ∧ twice.position.pendingTrigger ≠ none) :=
  ⟨⟨placeFree_reset, by decide, by decide⟩, ⟨⟨by decide, by decide⟩, by decide, by decide⟩,
    ⟨by decide, by decide⟩, by decide, by decide⟩

/-! ## Hypotheses met: cells and ports -/

/-- The queue to the next head with a number of cells. -/
def downQueued (n : Nat) : State :=
  { linked with link := { linked.link with downForward := List.replicate n (plainCell .command) } }

theorem test_CommandsAreRouted :
    (State.reset.link.tether.up = false ∧ linked.link.tether.up = true ∧ 64 < (65 : Byte).toNat
        ∧ (64 : Byte).toNat ≤ 64 ∧ (1 : BitVec 4) ≠ 0 ∧ (1 : BitVec 4) ≠ 15
        ∧ linked.link.position = some (1 : BitVec 4).toNat
        ∧ linked.link.position ≠ some (2 : BitVec 4).toNat)
      ∧ ((downQueued 15).link.chain.up = true ∧ (downQueued 15).link.downForward.length < 16)
      ∧ 16 ≤ (downQueued 16).link.downForward.length
      ∧ (lastHead.link.chain.up = false ∧ lastHead.PlaceFree)
      ∧ (crowded.link.management.length = 32) :=
  ⟨by decide, by decide, by decide, ⟨by decide, by decide, by decide⟩, by decide⟩

/-- The least used length, one above it, and a SET whose segment byte, ignored, holds 7. -/
theorem test_CommandCellRunsItsCommand :
    (WellFormed (.readIdentity 5) = true
        ∧ encodeCommand (.readIdentity 5) = some (5, 2, padPayload [1, 1])
        ∧ (2 : Byte).toNat ≤ (64 : Byte).toNat ∧ (64 : Byte).toNat ≤ 64
        ∧ ∀ k, k < 2 → (padPayload [1, 1, 0xaa]).getD k 0 = (padPayload [1, 1]).getD k 0)
      ∧ (linked.link.tether.up = true ∧ (1 : BitVec 4) ≠ 0 ∧ (1 : BitVec 4) ≠ 15
        ∧ linked.link.position = some (1 : BitVec 4).toNat)
      ∧ (encodeCommand (.setSourceWidth 5 1000) = some (5, 7, padPayload [2, 1, 0, 0, 0, 3, 0xe8])
        ∧ (∀ k, k < 7 → k ≠ 2 → (padPayload [2, 1, 7, 0, 0, 3, 0xe8]).getD k 0
          = (padPayload [2, 1, 0, 0, 0, 3, 0xe8]).getD k 0)
        ∧ (after (.commandCell 0 1 5 9 (padPayload [2, 1, 7, 0, 0, 3, 0xe8, 1])) linked).params.sourceWidth
          = 992) := by decide

/-- A broadcast cell is answered by this head and passed on, an unknown number too. -/
theorem test_broadcast_is_consumed_and_forwarded :
    [padPayload [1, 1, 0xaa], padPayload [20]].map (fun payload =>
        let t := after (.commandCell 0 15 5 2 payload) linked
        (t.link.management.map (fun c => c.payload.take 2), t.link.downForward.map Cell.payload))
      = [([[1, 0]], [padPayload [1, 1, 0xaa]]), ([[20, 11]], [padPayload [20]])] := by decide

/-- A short SET of six bytes, a short edit of three, and a READ of item 11. -/
theorem test_DecodeAnswersMalformedCommands :
    linked.PlaceFree ∧ linked.link.tether.up = true ∧ linked.link.position = some (1 : BitVec 4).toNat
      ∧ (20 : Byte).toNat ≤ 64 ∧ (padPayload [20]).length = 64 ∧ 19 < (20 : Byte).toNat
      ∧ ((padPayload [2]).getD 0 0 = 2 ∧ (6 : Byte).toNat < 7)
      ∧ ((padPayload [8]).getD 0 0 = 8 ∧ (3 : Byte).toNat < 4)
      ∧ ((padPayload [1, 11]).getD 0 0 = 1 ∧ 2 ≤ (2 : Byte).toNat ∧ 10 < (11 : Byte).toNat)
      ∧ ((padPayload [1, 7]).getD 1 0 = 7 ∧ (3 : Byte).toNat = 3)
      ∧ ((padPayload [2, 25]).getD 0 0 = 2 ∧ 7 ≤ (7 : Byte).toNat ∧ 24 < (25 : Byte).toNat) :=
  ⟨placeFree_linked, by decide, by decide, by decide, by decide, by decide, by decide, by decide,
    by decide, by decide, by decide⟩

theorem test_RollCallAssignsPositions :
    (State.reset.link.tether.up = false ∧ linked.link.tether.up = true ∧ 64 < (65 : Byte).toNat)
      ∧ ((2 : Byte).toNat ≤ 64 ∧ linked.link.replyPlace = false)
      ∧ ((readablePayload 2 (padPayload [3, 0])).getD 0 0).toNat < 4
      ∧ 4 ≤ ((readablePayload 2 (padPayload [4, 0])).getD 0 0).toNat
      ∧ (linked.link.chain.up = true ∧ lastHead.link.chain.up = false)
      ∧ ((downQueued 15).link.downForward.length < 16 ∧ 16 ≤ (downQueued 16).link.downForward.length)
      ∧ (lastHead.link.management.length < 32 ∧ 32 ≤ crowded.link.management.length)
      ∧ (after (.rollCall 0 0 40 65 (padPayload [0, 0])) linked).link.counters.tetherCellErrors = 1 := by
  decide

/-- The queue of upward cells with a number of cells. -/
def upQueued (n : Nat) : State :=
  { linked with link := { linked.link with upForward := List.replicate n (plainCell .row) } }

theorem test_ReceiptJudgesCells :
    (State.reset.link.chain.up = false ∧ linked.link.chain.up = true
        ∧ (plainCell .row).used.toNat ≤ 64 ∧ (plainCell .row).kind ≠ .command
        ∧ (plainCell .row).kind ≠ .rollCall ∧ (plainCell .command).kind = .command
        ∧ 64 < ({ plainCell .row with used := 65 } : Cell).used.toNat)
      ∧ ((upQueued 127).link.upForward.length < 128 ∧ 128 ≤ (upQueued 128).link.upForward.length)
      ∧ (linked.link.tether.up = true ∧ acceptedCell .tether [] = none ∧ acceptedCell .chain [] = none) :=
  ⟨by decide, ⟨(List.length_replicate ..).trans_lt (by decide), (List.length_replicate ..).ge⟩, by decide⟩

set_option maxRecDepth 8192 in
/-- The seventy bytes of a cell are accepted by the port it travels into. -/
theorem test_ReceiptJudgesCells_accepted :
    acceptedCell .chain (cellWire (plainCell .row)) = some (plainCell .row)
      ∧ acceptedCell .tether (cellWire { plainCell .command with dest := 1 })
        = some { plainCell .command with dest := 1 }
      ∧ acceptedCell .tether (cellWire (plainCell .rollCall)) = some (plainCell .rollCall) := by
  decide +kernel

theorem test_PortsAndSymbols :
    ((State.reset.link.port .tether).up = false ∧ (linked.link.port .chain).up = true)
      ∧ linked.link.tether.up = true
      ∧ ((downQueued 3).link.chain.up = true ∧ (downQueued 3).link.replyPlace = false
        ∧ ∀ n ∈ (downQueued 3).link.counters.toList, n ≤ 4294967295) := by decide

theorem test_PortsSendInOrder :
    let may := fun (p : Port) => p.up = true ∧ p.holdReceived = false
    let waiting := after (.readStatus 0) linked
    ¬may State.reset.link.tether
      ∧ (may waiting.link.tether ∧ waiting.link.management ≠ [] ∧ waiting.link.statusOwed = false)
      ∧ (may (upQueued 1).link.tether ∧ (upQueued 1).link.management = []
        ∧ (upQueued 1).link.ownVideo = [] ∧ (upQueued 1).link.upForward ≠ [])
      ∧ (may (downQueued 1).link.chain ∧ (downQueued 1).link.downForward ≠ []
        ∧ linked.link.downForward = []) := by decide

/-- A STATUS cell waits, is owed, finds a place, and finds none. -/
theorem test_StatusCellsReportEvents :
    let waits := { linked with link := { linked.link with management := [plainCell .status] } }
    let owed := { linked with link := { linked.link with statusOwed := true } }
    (∃ c ∈ waits.link.management, c.kind = .status)
      ∧ ((¬∃ c ∈ owed.link.management, c.kind = .status) ∧ owed.link.statusOwed = true)
      ∧ ((¬∃ c ∈ linked.link.management, c.kind = .status) ∧ linked.link.statusOwed = false
        ∧ linked.link.management.length + (if linked.link.replyPlace then 1 else 0) < 32)
      ∧ ((¬∃ c ∈ crowded.link.management, c.kind = .status) ∧ crowded.link.statusOwed = false
        ∧ 32 ≤ crowded.link.management.length + (if crowded.link.replyPlace then 1 else 0)) := by
  decide

/-! ## Hypotheses met: frames -/

/-- The three slots taken, an exposure's record outstanding. -/
def slotsTaken : State :=
  { awaiting with slots := { SlotPool.reset with
      slot0 := readySlot, slot1 := readySlot, slot2 := readySlot
      readyOrder := [.slot0, .slot1, .slot2] } }

theorem test_FrameBeginClaimsDropsOrPasses :
    (State.reset.intake.intake = .waiting ∧ State.reset.position.outstanding = none)
      ∧ (slotsTaken.intake.intake = .waiting ∧ slotsTaken.position.outstanding.isSome = true
        ∧ ∀ i, (slotsTaken.slots.get i).state ≠ .free)
      ∧ (awaiting.intake.intake = .waiting ∧ awaiting.position.outstanding.isSome = true
        ∧ (awaiting.slots.get .slot0).state = .free)
      ∧ filling.intake.intake = .filling .slot0 :=
  ⟨by decide, ⟨by decide, by decide, fun i => by cases i <;> decide⟩, by decide, by decide⟩

/-- A slot of 256 × 2 filling, with a number of rows received. -/
def fillingRows (n : Nat) : State :=
  { State.reset with
    intake := { SensorIntake.reset with intake := .filling .slot0 }
    slots := { SlotPool.reset with slot0 :=
      { readySlot with state := .filling, hs := 2
                       rows := List.replicate n { pixels := List.replicate 256 0, received := 256 } } } }

theorem test_LinesFillTheRaster :
    (∀ i, State.reset.intake.intake ≠ .filling i)
      ∧ ((fillingRows 1).intake.intake = .filling .slot0 ∧ [(100 : BitVec 12)] ≠ []
        ∧ ((fillingRows 1).slots.get .slot0).rows.length < ((fillingRows 1).slots.get .slot0).hs)
      ∧ ((fillingRows 2).slots.get .slot0).hs ≤ ((fillingRows 2).slots.get .slot0).rows.length :=
  ⟨fun i => by cases i <;> decide, by decide, by decide⟩

/-- A survey collecting on a frame without lines, the sequencer READY since the readout limit. -/
def emptySurvey : State :=
  { fillingRows 0 with intake := { (fillingRows 0).intake with survey := .collecting 256 [] 0 } }

/-- R79, R82 case b, R99: the survey is ARMED again and its next exposure starts at once. -/
theorem test_survey_armed_again_starts :
    emptySurvey.position.sequencer = .ready
      ∧ (after .frameEnd emptySurvey).intake.survey = .armed
      ∧ (after .frameEnd emptySurvey).position.sequencer = .exposing
      ∧ causeAndTag (after .frameEnd emptySurvey) = some (.survey, 0) := by decide

theorem test_FrameEndCompletesTheFrame :
    (State.reset.intake.intake = .waiting)
      ∧ (let s := { State.reset with intake := { SensorIntake.reset with
            intake := .passing (.dropped (some 3)) } }
         s.intake.intake = .passing (.dropped (some 3)))
      ∧ ((fillingRows 0).intake.intake = .filling .slot0
        ∧ ((fillingRows 0).slots.get .slot0).record = some snapRecord
        ∧ ((fillingRows 0).slots.get .slot0).rows = []
        ∧ (fillingRows 0).intake.survey ≠ .armed ∧ (after .frameEnd (fillingRows 0)).intake.survey ≠ .armed)
      ∧ (emptySurvey.intake.intake = .filling .slot0 ∧ emptySurvey.intake.survey ≠ .armed)
      ∧ (((fillingRows 1).slots.get .slot0).record = some snapRecord
        ∧ ((fillingRows 1).slots.get .slot0).rows.getLast?.isSome = true) := by decide

theorem test_SequencerTakesExposuresInTurn :
    (State.reset.position.sequencer = .ready ∧ State.reset.intake.survey ≠ .armed
        ∧ State.reset.position.pendingTrigger = none)
      ∧ (∃ e, awaiting.position.current = some e ∧ e.sequence = 0
        ∧ awaiting.position.sequencer = .awaitingFrame)
      ∧ (let armed := { awaiting with intake := { awaiting.intake with survey := .armed } }
         armed.intake.survey = .armed)
      ∧ (let pended := after (.snap 0) exposing
         pended.intake.survey ≠ .armed
          ∧ pended.position.pendingTrigger = some { cause := .snap, tag := 0 }) :=
  ⟨by decide, ⟨_, rfl, by decide, by decide⟩, by decide, by decide⟩

/-- A raster of 2 × 2 with the pixel (0, 0) listed. -/
theorem test_DefectsAreRepairedFromNeighbours :
    let list : List DefectEntry := [⟨0, 0, .q, .loaded⟩]
    let slot : Slot := { readySlot with
      ws := 2, hs := 2, rows := [⟨[4000, 10], 2⟩, ⟨[21, 30], 2⟩] }
    list.Pairwise DefectEntry.Before ∧ slot.rows.length = slot.hs
      ∧ (∀ r ∈ slot.rows, r.pixels.length = slot.ws)
      ∧ ({ slot with rows := repairedRows list slot } : Slot).pixel 0 0 = 16 := by
  exact ⟨List.pairwise_singleton .., by decide, by decide, by decide⟩

/-- Banks as a state holds them are sound: EMPTY ones, and two of 128 × 128 with one in force. -/
theorem banksSound_reset : State.reset.BanksSound := by
  refine ⟨⟨by decide, ?_, by decide⟩, ⟨by decide, ?_, by decide⟩, by decide, ?_⟩ <;> rintro _ ⟨⟩

theorem banksSound_committed : committed.BanksSound := by
  refine ⟨⟨by decide, ?_, by decide⟩, ⟨by decide, ?_, by decide⟩, by decide, ?_⟩
  · rintro h ⟨⟩; simp [Header.InRange]
  · rintro h ⟨⟩; simp [Header.InRange]
  · rintro b ⟨⟩; decide

/-- A frame READY with no change of view pending, and one with a commit of a bank with the same zones. -/
theorem test_FrameStartTakesSlotAndView :
    (committed.views.pendingView = some (.bank .bank1) ∧ banked.views.pendingView = none
        ∧ (after (.rawView 0) banked).views.pendingView = some .raw)
      ∧ (tuningDrive.tune = .tuning 1 512 none 300 ∧ SegmentDrive.reset.isTuning = false)
      ∧ (frameReady.BanksSound ∧ frameReady.engine.run = none
        ∧ frameReady.slots.readyOrder = .slot0 :: []
        ∧ (frameReady.slots.get .slot0).record = some snapRecord
        ∧ frameReady.views.takeUp.inForce = .raw
        ∧ 256 = min (frameReady.slots.get .slot0).ws 1024 ∧ 256 = (frameReady.slots.get .slot0).hs)
      ∧ ({ frameReady with views := committed.views }.BanksSound
        ∧ committed.views.inForce = .bank .bank0 ∧ committed.views.takeUp.inForce = .bank .bank1
        ∧ (committed.views.get .bank0).header.map Header.wo = some 128
        ∧ (committed.views.takeUp.get .bank1).header.map Header.wo = some 128
        ∧ ∀ c, (committed.views.get .bank0).zone c = (committed.views.takeUp.get .bank1).zone c) :=
  ⟨by decide, by decide, ⟨banksSound_reset, by decide⟩,
    banksSound_committed, by decide, by decide, by decide, by decide, fun _ => rfl⟩

/-- A run with its row 0 next through the raw view and through a bank, with room for it, and none. -/
theorem test_ItemsWaitForRoom :
    (∃ r cell, running.engine.run = some r ∧ r.next = .frameStart cell)
      ∧ (∃ r, (runningAt (.row 0)).engine.run = some r ∧ r.next = .row 0
        ∧ ((runningAt (.row 0)).slots.get r.slot).record = some snapRecord ∧ r.view = .raw
        ∧ (runningAt (.row 0)).link.ownVideo.length + (runningAt (.row 0)).engine.reserved
            + (r.wo + 47) / 48 ≤ 192)
      ∧ (let banked' := after .warpFrameStart { frameReady with views := banked.views }
        ∃ r h, banked'.engine.run = some r ∧ r.view = .bank .bank0
          ∧ (banked'.views.get .bank0).header = some h ∧ r.wo = h.wo)
      ∧ (∃ r, (runningAt .frameEnd).engine.run = some r ∧ r.next = .frameEnd)
      ∧ (let full := { runningAt (.row 0) with link := { LinkUnit.reset with
            ownVideo := List.replicate 192 (plainCell .row) } }
         full.engine.reserved = 0 ∧ full.link.ownVideo.length = 192) :=
  ⟨⟨_, _, rfl, rfl⟩, ⟨_, rfl, rfl, by decide, by decide, by decide⟩, ⟨_, _, rfl, by decide, rfl, by decide⟩,
    ⟨_, rfl, rfl⟩, by decide, List.length_replicate ..⟩

theorem test_RowCellsCarryThePixels :
    (List.replicate 64 1023).length % 16 = 0 ∧ ∀ v ∈ List.replicate 64 1023, v < 1024 := by decide

theorem test_FrameEndHandsOver :
    ∃ r, (runningAt .frameEnd).engine.run = some r ∧ r.next = .frameEnd
      ∧ ((runningAt .frameEnd).slots.get r.slot).record = some snapRecord
      ∧ (runningAt .frameEnd).link.ownVideo.length + (runningAt .frameEnd).engine.reserved + 1 ≤ 192 :=
  ⟨_, rfl, rfl, by decide, by decide⟩

/-- The end of the run under ON EVENT, the reset notice acknowledged, with some latches set. -/
def endingOnEvent (latches : BitVec 15) : State :=
  let s := runningAt .frameEnd
  { s with
    params := { s.params with reportMode := .onEvent }
    link := { s.link with resetNotice := false, latches } }

/-- Under EVERY FRAME a STATUS cell joins; under ON EVENT only while an enabled latch is set, which the
cell then carries and clears; a masked one calls for none (R172, R174 cases a and b). -/
theorem test_FrameEndHandsOver_occasions :
    let ended := fun (s : State) =>
      let t := after .warpFrameEnd s
      (t.link.management.map (fun c => (c.kind, carriedLatches c)), t.link.latches)
    ended (runningAt .frameEnd) = ([(.status, 0x4000)], 0)
      ∧ ended (endingOnEvent 0) = ([], 0)
      ∧ ended (endingOnEvent 1) = ([(.status, 1)], 0)
      ∧ ended { endingOnEvent 1 with params :=
          { (endingOnEvent 1).params with eventMask := 0x7ffe } } = ([], 1) := by decide

/-! ## Hypotheses met: arithmetic, position, protection -/

theorem test_OutputPixelsAreCorrected :
    0 < 16 ∧ 5 ≤ 16 ∧ 2 ≤ 16 ∧ (1000 ≤ 1000 ∧ 1160 ≤ 1160 ∧ 1040 ≤ 1160) := by decide

theorem test_ExposureIsCutAndCompensated :
    50 ≤ State.reset.params.exposure ∧ State.reset.params.exposure ≤ 20000 := by decide

theorem test_LampsFormTheirDuties :
    (tuningState.lamps.segments.get 4).tune = .tuning 1 512 none 300 ∧ Cause.snap ≠ .survey
      ∧ (tuningState.lamps.segments.get 3).tune = .steady
      ∧ (tuningState.lamps.pendingCycle.getD tuningState.lamps.cycle) = tuningState.lamps.cycle := by
  decide

/-- A trial whose frame counts, one whose frame does not, and the last trial. -/
theorem test_HandOverJudgesSegments :
    (searchHandOver.counts (some 3) 3 (some 0) = true ∧ searchHandOver.counts none 3 (some 0) = false)
      ∧ (3 < searchHandOver.n ∧ searchHandOver.n ≤ 10)
      ∧ (1 ≤ searchHandOver.beta ∧ searchHandOver.beta ≤ 256) := by decide

/-- TRAVEL reaching L + STEP and falling short of it; DWELL short of the wake distance and reaching it,
with the creep short of L + STEP and beyond it. -/
theorem test_OdometerMovesThePosition :
    (1 ≤ State.reset.params.triggerStep
        ∧ (standingAt 199 0 .travel).position.p + 1 = 0 + (200 : Int)
        ∧ (standingAt 198 0 .travel).position.p + 1 ≠ 0 + (200 : Int))
      ∧ ((standingAt 6 0 .dwell).position.restPosition = some 0
        ∧ ((standingAt 6 0 .dwell).position.p + 1 - 0).natAbs < State.reset.params.wakeDistance
        ∧ State.reset.params.wakeDistance ≤ ((standingAt 7 0 .dwell).position.p + 1 - 0).natAbs)
      ∧ ((after (.odometerCount .phaseA) (standingAt 7 0 .dwell)).position.mode = .travel
        ∧ (after (.odometerCount .phaseA) (standingAt 7 0 .dwell)).position.l = 0
        ∧ (after (.odometerCount .phaseA) (standingAt 450 0 .dwell)).position.l = 400) := by decide

theorem test_MotionTimersRun :
    (State.reset.position.mode = .travel ∧ State.reset.params.dwellTimeout ≠ 0)
      ∧ ((restingIn .dwell).position.mode = .dwell ∧ (restingIn .dwell).params.parkTimeout ≠ 0)
      ∧ (restingIn .parked).position.mode = .parked := by decide

/-- An exposure CLOSED before its end, with a probe waiting, with and without a next exposure. -/
def closedEarly : State :=
  { exposing with
    position := { exposing.position with
      current := exposing.position.current.map fun e => { e with recordState := .closed } }
    guard := { exposing.guard with probe := .waiting } }

theorem test_ExposuresEndOrTimeOut :
    (∃ e, exposing.position.current = some e ∧ exposing.position.sequencer = .exposing
        ∧ e.recordState ≠ .closed)
      ∧ (∃ e, closedEarly.position.current = some e ∧ e.recordState = .closed
        ∧ closedEarly.guard.probe = .waiting ∧ closedEarly.position.sequencer = .exposing
        ∧ closedEarly.position.pendingTrigger = none ∧ closedEarly.intake.survey ≠ .armed)
      ∧ (after (.snap 0) closedEarly).position.pendingTrigger ≠ none
      ∧ (∃ e, awaiting.position.current = some e ∧ awaiting.position.sequencer = .awaitingFrame
        ∧ e.recordState = .outstanding ∧ e.endedAt = some 96000)
      ∧ (∃ e, filling.position.current = some e ∧ filling.position.sequencer = .awaitingFrame
        ∧ e.recordState = .readingOut ∧ e.begunAt = some 96000) :=
  ⟨⟨_, rfl, by decide, by decide⟩, ⟨_, rfl, by decide, by decide, by decide, by decide, by decide⟩,
    by decide, ⟨_, rfl, by decide, by decide, by decide⟩, ⟨_, rfl, by decide, by decide, by decide⟩⟩

/-- An exposure in progress whose record was discarded with a dropped frame. -/
def recordLost : State :=
  { exposing with position := { exposing.position with outstanding := none } }

/-- Lit segments at an on-step and at an off-step of the half duty, and an exposure with its record in no
slot. -/
theorem test_SensingFindsFaults :
    (1 ≤ 1 ∧ 1024 ≤ 2 ^ 10)
      ∧ (∃ e, lit.position.sequencer = .exposing ∧ lit.position.current = some e
        ∧ 0 < (lit.lamps.segments.get 3).applied ∧ (lit.guard.segments.get 3).turnedOff = false
        ∧ (lit.guard.segments.get 3).progress < 960
        ∧ 960 ≤ onSteps lit.lamps.cycle (lit.lamps.segments.get 3).applied (48 * e.eEff))
      ∧ (1500000 < 1500001 ∧ 511 % 2 ^ lit.lamps.cycle < (lit.lamps.segments.get 3).applied
        ∧ ¬512 % 2 ^ lit.lamps.cycle < (lit.lamps.segments.get 3).applied)
      ∧ [0, 511, 512, 95999, 96256].map (fun now =>
          ((after (.overcurrent 3 1500001) (atMoment now lit)).guard.segments.get 3).overLatch)
        = [true, true, false, false, false]
      ∧ ((tuningState.lamps.segments.get 4).tune = .tuning 1 512 none 300
        ∧ (tuningState.lamps.segments.get 3).isTuning = false)
      ∧ (∃ r, lit.position.outstanding = some r)
      ∧ (∃ e, recordLost.position.sequencer = .exposing ∧ recordLost.position.current = some e
        ∧ recordLost.position.outstanding = none
        ∧ ∀ k, e.slot = some k → (recordLost.slots.get k).record = none) :=
  ⟨by decide, ⟨_, by decide, rfl, by decide, by decide, by decide, by decide⟩, by decide, by decide,
    by decide, ⟨_, rfl⟩, ⟨_, by decide, rfl, by decide, nofun⟩⟩

/-- A sample of 104 changes nothing at reset, one of 125 enters SHUTDOWN, in an open window too. -/
theorem test_ThermalSamplesAreJudged :
    thermalNext State.reset.guard.thermal 104 = State.reset.guard.thermal
      ∧ thermalNext State.reset.guard.thermal 125 = .shutdown
      ∧ (exposing.position.openWindow ≠ none ∧ exposing.position.outstanding.isSome = true)
      ∧ (recordLost.position.openWindow ≠ none ∧ recordLost.position.outstanding = none
        ∧ (after (.thermalSample 125) recordLost).slots.slot0 = Slot.freed)
      ∧ State.reset.position.openWindow = none := by decide

/-! ## Hypotheses met: invariants and encodings -/

/-- A state about to take a SNAP. -/
def beforeSnap (s : State) : State := { s with pending := [.snap 0] }

theorem test_StepsKeepTheQueuesBounded :
    (beforeSnap crowded).QueuesBounded ∧ ∃ t, step (beforeSnap crowded) = .next t :=
  ⟨⟨by decide, by decide, by decide, by decide, by decide⟩, _, rfl⟩

/-- A survey collecting on the frame that fills slot 0, of which one row is received. -/
def surveying : State :=
  { fillingRows 1 with
    intake := { collecting with defects := [⟨5, 7, .q, .loaded⟩], survey := .collecting 256 [(0, 9)] 0 } }

theorem test_StepsKeepTheDefectList :
    (beforeSnap surveying).DefectsSound ∧ (beforeSnap surveying).SurveySound
      ∧ (beforeSnap surveying).SlotsSound ∧ ∃ t, step (beforeSnap surveying) = .next t := by
  refine ⟨⟨?_, by decide, by decide⟩, ?_, ⟨?_, ?_, ?_, by decide, ?_⟩, _, rfl⟩
  · simp [beforeSnap, surveying]
  · intro threshold candidates overflow h
    obtain ⟨rfl, rfl, rfl⟩ : 256 = threshold ∧ [(0, 9)] = candidates ∧ 0 = overflow := by
      simpa [beforeSnap, surveying] using h
    exact ⟨⟨.slot0, by decide, by decide⟩, by decide, by decide, by decide⟩
  · intro i; cases i <;> decide
  · refine fun i => ⟨fun h => absurd h (by cases i <;> decide), ?_⟩
    rintro ⟨r, hr, -⟩
    cases hr
  · intro i; cases i <;> decide
  · intro i; cases i <;> decide

theorem test_StepsKeepTheBanks :
    (beforeSnap banked).BanksSound ∧ ∃ t, step (beforeSnap banked) = .next t := by
  refine ⟨⟨⟨by decide, ?_, by decide⟩, ⟨by decide, ?_, by decide⟩, by decide, ?_⟩, _, rfl⟩
  · rintro h ⟨⟩; simp [Header.InRange]
  · rintro h ⟨⟩; simp [Header.InRange]
  · rintro b ⟨⟩

theorem test_StepsKeepSlotsAndSequencer :
    (beforeSnap frameReady).SlotsSound ∧ (beforeSnap frameReady).SequencerSound
      ∧ ∃ t, step (beforeSnap frameReady) = .next t := by
  refine ⟨⟨?_, ?_, ?_, by decide, ?_⟩, ⟨by decide, by decide⟩, _, rfl⟩
  · intro i; cases i <;> decide
  · refine fun i => ⟨fun h => absurd h (by cases i <;> decide), ?_⟩
    rintro ⟨r, hr, -⟩
    cases hr
  · intro i; cases i <;> decide
  · intro i; cases i <;> decide

theorem test_StepsKeepDutiesAndParameters :
    (beforeSnap tuningState).params.InRange ∧ (beforeSnap tuningState).DutiesSound
      ∧ ∃ t, step (beforeSnap tuningState) = .next t := by
  refine ⟨?_, ⟨by decide, by decide, ?_, ?_⟩, _, rfl⟩
  · simp [beforeSnap, tuningState, State.reset, Parameters.InRange, Parameters.default]
  · rintro n ⟨⟩
  · intro i
    fin_cases i <;> simp [beforeSnap, tuningState, tuningDrive, State.reset, IlluminationUnit.reset,
      SegmentDrive.Sound, SegmentDrive.reset, Eight.get, Eight.set, Eight.all, Eight.build]

theorem test_StepsKeepRangesAndAlert :
    (beforeSnap linked).RangesSound ∧ (beforeSnap linked).GuardSound
      ∧ ∃ t, step (beforeSnap linked) = .next t := by
  refine ⟨⟨by decide, ?_, by decide, by decide⟩, ⟨by decide, by decide, by decide⟩, _, rfl⟩
  rintro p ⟨⟩; decide

theorem test_CommandsDecodeAsEncoded :
    WellFormed (.setDuty 3 7 2048) = true
      ∧ encodeCommand (.setDuty 3 7 2048) = some (3, 7, padPayload [2, 14, 7, 0, 0, 8, 0])
      ∧ decodeCommand 3 7 (padPayload [2, 14, 7, 0, 0, 8, 0]) = .run (.setDuty 3 7 2048) := by decide

end Sys2Proof.Tests
end

/-! PROOFS. The correction arithmetic of Chapter 1: interpolation, the mesh and gain cells, and the output
pixels. -/

namespace Sys2Proof.Machine

/-! ## Interpolation (R10, R13, R15) -/

/-- The four weights make up the whole cell, so equal corners weigh as one. -/
theorem cornerSum_same {size wx wy : Nat} (hx : wx ≤ size) (hy : wy ≤ size) (a : Nat) :
    cornerSum size wx wy a a a a = size * size * a := by
  obtain ⟨u, rfl⟩ := Nat.exists_eq_add_of_le hx
  obtain ⟨v, hv⟩ := Nat.exists_eq_add_of_le hy
  have hu : wx + u - wx = u := Nat.add_sub_cancel_left ..
  have hw : wx + u - wy = v := by omega
  calc cornerSum (wx + u) wx wy a a a a = (wx + u) * (wy + v) * a := by
        rw [cornerSum, hu, hw]; ring
    _ = (wx + u) * (wx + u) * a := by rw [hv]

/-- Equal corners give their common value: the half added for rounding does not carry. -/
theorem cornerMean_same {size wx wy : Nat} (hs : 0 < size) (hx : wx ≤ size) (hy : wy ≤ size)
    (a : Nat) : cornerMean size wx wy a a a a = a := by
  have hn : 0 < size * size := Nat.mul_pos hs hs
  have hhalf : size * size / 2 / (size * size) = 0 :=
    Nat.div_eq_of_lt (Nat.div_lt_self hn Nat.one_lt_two)
  rw [cornerMean, cornerSum_same hx hy, Nat.mul_add_div hn, hhalf, Nat.add_zero]

/-- Interpolation is monotone in its corners. -/
theorem cornerMean_mono (size wx wy : Nat) {a b c d a' b' c' d' : Nat}
    (ha : a ≤ a') (hb : b ≤ b') (hc : c ≤ c') (hd : d ≤ d') :
    cornerMean size wx wy a b c d ≤ cornerMean size wx wy a' b' c' d' := by
  unfold cornerMean cornerSum
  gcongr

/-! ## The cells of mesh and gain surface (R8, R15) -/

/-- In a grid stored row by row, the entry one row below is one row's length further on. -/
theorem gridIndex_below (columns i j : Nat) :
    j * columns + i + columns = (j + 1) * columns + i := by ring

/-- The corners of a pixel's mesh cell, by column and row of the mesh (R8). -/
theorem Bank.corners_eq (k : Bank) (h : Header) (x y : Nat) :
    k.corners h x y =
      { a := k.node (y / 16 * (h.wo / 16 + 1) + x / 16)
        b := k.node (y / 16 * (h.wo / 16 + 1) + (x / 16 + 1))
        c := k.node ((y / 16 + 1) * (h.wo / 16 + 1) + x / 16)
        d := k.node ((y / 16 + 1) * (h.wo / 16 + 1) + (x / 16 + 1)) } := by
  simp only [Bank.corners, gridIndex_below]
  rfl

/-- The gain of a pixel, by column and row of the gain surface (R15). -/
theorem Bank.gainAt_eq (k : Bank) (h : Header) (x y : Nat) :
    k.gainAt h x y =
      cornerMean 64 (x % 64) (y % 64) (k.gain (y / 64 * (h.wo / 64 + 1) + x / 64))
        (k.gain (y / 64 * (h.wo / 64 + 1) + (x / 64 + 1)))
        (k.gain ((y / 64 + 1) * (h.wo / 64 + 1) + x / 64))
        (k.gain ((y / 64 + 1) * (h.wo / 64 + 1) + (x / 64 + 1))) := by
  simp only [Bank.gainAt, gridIndex_below]
  rfl

/-- A pixel is FILL exactly when a corner of its cell is VOID (R9). -/
theorem Corners.isFill_iff (k : Corners) :
    k.isFill = true ↔
      k.a.isVoid = true ∨ k.b.isVoid = true ∨ k.c.isVoid = true ∨ k.d.isVoid = true := by
  simp only [Corners.isFill, Bool.or_eq_true, or_assoc]

/-- Settles O44: the corners and gains stand at the places the row-by-row tables give them, and a mean
lies between the means of the least and of the greatest corner taken four times. -/
theorem outputPixelsAreCorrected : Obligations.OutputPixelsAreCorrected := by
  refine ⟨?pixels, fun _ _ _ _ => rfl, ?bounds⟩
  case pixels =>
    intro k h slot gx x y
    simp only [bankPixel, Corners.isFill_iff, Bank.corners_eq, Bank.gainAt_eq]
    rfl
  case bounds =>
    intro size wx wy a b c d lo hi hs hx hy ha hb hc hd ha' hb' hc' hd'
    constructor
    · calc lo = cornerMean size wx wy lo lo lo lo := (cornerMean_same hs hx hy lo).symm
        _ ≤ cornerMean size wx wy a b c d := cornerMean_mono size wx wy ha hb hc hd
    · calc cornerMean size wx wy a b c d ≤ cornerMean size wx wy hi hi hi hi :=
            cornerMean_mono size wx wy ha' hb' hc' hd'
        _ = hi := cornerMean_same hs hx hy hi

end Sys2Proof.Machine

/-! PROOFS. ITEM PRODUCTION: the places of an item, zone statistics, and the item produced or the engine
STALLED. -/

namespace Sys2Proof.Machine

/-! ## Places of an item (R27, R28) -/

/-- One group of `size` fewer needs one group fewer. -/
theorem ceilDiv_sub {n size : Nat} (hn : 0 < n) (hs : 0 < size) :
    ceilDiv (n - size) size + 1 = ceilDiv n size := by
  unfold ceilDiv
  rcases Nat.le_total size n with h | h
  · rw [← Nat.add_div_right _ hs]
    congr 1
    omega
  · have hlast : (n - size + size - 1) / size = 0 := Nat.div_eq_of_lt (by omega)
    have honly : (n + size - 1) / size = 1 := Nat.div_eq_of_lt_le (by omega) (by omega)
    rw [hlast, honly]

/-- With fuel enough a list falls into the least number of groups that hold it. -/
theorem groups_length {α : Type} {size : Nat} (hs : 0 < size) (fuel : Nat) (l : List α)
    (hl : l.length ≤ fuel) : (groups fuel size l).length = ceilDiv l.length size := by
  induction fuel generalizing l with
  | zero =>
    obtain rfl := List.length_eq_zero_iff.mp (Nat.le_zero.mp hl)
    exact (Nat.div_eq_of_lt (by simp; omega)).symm
  | succ fuel ih =>
    cases l with
    | nil => exact (Nat.div_eq_of_lt (by simp; omega)).symm
    | cons a rest =>
      have hrest : ((a :: rest).drop size).length ≤ fuel := by
        simp only [List.length_drop, List.length_cons] at hl ⊢
        omega
      rw [groups, List.length_cons, ih _ hrest, List.length_drop]
      exact ceilDiv_sub (by simp) hs

/-- A row takes ceil(Wo/48) cells (R28). -/
theorem length_rowCells (l : LinkUnit) (number : BitVec 16) (row : Nat) (values : List Nat) :
    (rowCells l number row values).length = ceilDiv values.length 48 := by
  rw [rowCells, List.length_mapIdx, groups_length (by omega) _ _ (Nat.le_refl _)]

theorem Run.places_frameStart {r : Run} {cell : Cell} (h : r.next = .frameStart cell) :
    r.places = 1 := by
  simp only [Run.places, h]

theorem Run.places_row {r : Run} {y : Nat} (h : r.next = .row y) :
    r.places = ceilDiv r.wo 48 := by
  simp only [Run.places, h]

/-! ## Claiming places (R27) -/

/-- The places of the next item are its own already, or as many are free (R27). -/
def State.HasPlaces (s : State) (r : Run) : Prop :=
  s.engine.reserved = r.places
    ∨ s.link.ownVideo.length + s.engine.reserved + r.places ≤ 192

theorem State.roomFor_iff (s : State) (n : Nat) :
    s.roomFor n = true ↔ s.link.ownVideo.length + s.engine.reserved + n ≤ 192 :=
  decide_eq_true_iff

/-- With its places reserved or free an item holds them, and nothing but the engine's run and its
reserved places has moved (R27). -/
theorem State.claimPlaces_of_hasPlaces {s : State} {r : Run} (h : s.HasPlaces r) :
    ∃ run, s.claimPlaces r =
      (s.setEngine { s.engine with run, reserved := r.places }, true) := by
  unfold State.claimPlaces
  by_cases hres : s.engine.reserved = r.places
  · exact ⟨s.engine.run, by rw [if_pos hres, ← hres]; rfl⟩
  · have hroom : s.roomFor r.places = true := (s.roomFor_iff _).mpr (h.resolve_left hres)
    exact ⟨_, by rw [if_neg hres, if_pos hroom]; rfl⟩

/-- With its places neither reserved nor free an item has the engine STALLED (R27). -/
theorem State.claimPlaces_of_not_hasPlaces {s : State} {r : Run} (h : ¬s.HasPlaces r) :
    s.claimPlaces r = (s.setRun { r with stalled := true }, false) := by
  obtain ⟨hres, hroom⟩ := not_or.mp h
  rw [State.claimPlaces, if_neg hres, if_neg (mt (s.roomFor_iff _).mp hroom)]

/-! ## Zone statistics (R30) -/

/-- One pixel reaches the accumulator of the zone it is counted in and no other (R17, R30). -/
theorem get_accumulatePixel (acc : Eight ZoneAccumulator) (p : OutputPixel) (z : Fin 8) :
    (accumulatePixel acc p).get z =
      if p.counted = some z then (acc.get z).add p.value else acc.get z := by
  unfold accumulatePixel
  cases hc : p.counted with
  | none => rfl
  | some w =>
    by_cases h : w = z
    · subst h
      simp
    · simp [Eight.get_set, h, Ne.symm h]

/-- After a row an accumulator has gained the sum, the number and the full-scale number of the pixels
counted in its zone (R30). -/
theorem get_foldl_accumulatePixel (pixels : List OutputPixel) (acc : Eight ZoneAccumulator)
    (z : Fin 8) :
    let mine := pixels.filter fun p => p.counted = some z
    (pixels.foldl accumulatePixel acc).get z =
      { sum := (acc.get z).sum + (mine.map OutputPixel.value).sum
        count := (acc.get z).count + mine.length
        fullScale := (acc.get z).fullScale + (mine.filter fun p => p.value = 1023).length } := by
  induction pixels generalizing acc with
  | nil => rfl
  | cons p rest ih =>
    simp only [List.foldl_cons, ih, get_accumulatePixel]
    by_cases hz : p.counted = some z
    · by_cases hv : p.value = 1023 <;>
        simp [hz, hv, ZoneAccumulator.add, bit] <;> omega
    · simp [hz]

/-! ## ITEM PRODUCTION (R27, R28, R30) -/

section
variable {s : State} {r : Run}

theorem exec_itemProduction (s : State) : exec .itemProduction s = execItemProduction s := rfl

/-- ITEM PRODUCTION with the FRAME END next changes nothing. -/
theorem exec_itemProduction_of_frameEnd (hr : s.engine.run = some r) (hn : r.next = .frameEnd) :
    exec .itemProduction s = .next s := by
  simp only [exec_itemProduction, execItemProduction, hr, hn, if_true]

/-- ITEM PRODUCTION of another item claims its places and produces it when it has them. -/
theorem exec_itemProduction_of_item (hr : s.engine.run = some r) (hn : r.next ≠ .frameEnd) :
    exec .itemProduction s =
      .next (if (s.claimPlaces r).2 then (s.claimPlaces r).1.produce r
        else (s.claimPlaces r).1) := by
  simp only [exec_itemProduction, execItemProduction, hr, hn, if_false]

/-- An item that has its places is produced whole in one event. -/
theorem exec_itemProduction_of_hasPlaces (hr : s.engine.run = some r) (hn : r.next ≠ .frameEnd)
    (h : s.HasPlaces r) :
    ∃ run, exec .itemProduction s =
      .next ((s.setEngine { s.engine with run, reserved := r.places }).produce r) := by
  obtain ⟨run, hclaim⟩ := State.claimPlaces_of_hasPlaces h
  exact ⟨run, by rw [exec_itemProduction_of_item hr hn, hclaim]; rfl⟩

/-- An item that lacks its places has the engine STALLED and changes nothing else. -/
theorem exec_itemProduction_of_not_hasPlaces (hr : s.engine.run = some r)
    (hn : r.next ≠ .frameEnd) (h : ¬s.HasPlaces r) :
    exec .itemProduction s = .next (s.setRun { r with stalled := true }) := by
  rw [exec_itemProduction_of_item hr hn, State.claimPlaces_of_not_hasPlaces h]
  rfl

/-- An output row does not depend on the engine's own state, the frame in hand being given. -/
theorem State.outputRow_setEngine (s : State) (e : WarpEngine) (r : Run) (y : Nat) :
    (s.setEngine e).outputRow r y = s.outputRow r y := rfl

/-- A FRAME START joins the queue in its one place and row 0 is next (R27). -/
theorem State.produce_frameStart {cell : Cell} (hn : r.next = .frameStart cell)
    (hres : s.engine.reserved = 1) :
    s.produce r = { s with
      link := { s.link with ownVideo := s.link.ownVideo ++ [cell] }
      engine := { s.engine with
        run := some { r with stalled := false, next := .row 0 }, reserved := 0 } } := by
  simp only [State.produce, hn, State.placeVideo, List.length_singleton, hres]
  rfl

/-- A row of Wo pixels joins the queue in its places, which it uses up, and its pixels go to the
accumulators (R28, R30). -/
theorem State.produce_row {y : Nat} {pixels : List OutputPixel} (hn : r.next = .row y)
    (hrow : s.outputRow r y = some pixels) (hlen : pixels.length = r.wo)
    (hres : s.engine.reserved = ceilDiv r.wo 48) :
    s.produce r = { s with
      link := { s.link with
        ownVideo := s.link.ownVideo ++ rowCells s.link r.number y (pixels.map OutputPixel.value) }
      engine := { s.engine with
        run := some { r with
          stalled := false, next := if y + 1 < r.ho then .row (y + 1) else .frameEnd }
        accumulators := pixels.foldl accumulatePixel s.engine.accumulators, reserved := 0 } } := by
  have hused :
      s.engine.reserved - (rowCells s.link r.number y (pixels.map OutputPixel.value)).length = 0 := by
    rw [length_rowCells, List.length_map, hlen, hres, Nat.sub_self]
  simp only [State.produce, hn, hrow, State.produceRow, State.placeVideo, hused]
  rfl

end

/-- Settles O41: an item claims its places and is then produced into exactly as many, so none stays
reserved; its pixels reach the accumulators one after the other. -/
theorem itemsWaitForRoom : Obligations.ItemsWaitForRoom := by
  intro s r hr
  refine ⟨exec_itemProduction_of_frameEnd hr, exec_itemProduction_of_not_hasPlaces hr,
    ?frameStart, ?row⟩
  case frameStart =>
    intro cell hn (room : s.HasPlaces r)
    obtain ⟨run, hexec⟩ := exec_itemProduction_of_hasPlaces hr (by simp [hn]) room
    rw [hexec, State.produce_frameStart hn (Run.places_frameStart hn)]
    rfl
  case row =>
    intro y record pixel hn (room : s.HasPlaces r) hrec hpixel
    have hgx : (s.slots.get r.slot).gx = some record.gx := by simp [Slot.gx, hrec]
    have hrow : s.outputRow r y = some ((List.range r.wo).map pixel) := by
      rcases hpixel with ⟨hv, hp⟩ | ⟨b, h, hv, hh, hp⟩
      · rw [State.outputRow_raw y hv hgx, funext hp]
      · rw [State.outputRow_bank y hv hh hgx, funext hp]
    obtain ⟨run, hexec⟩ := exec_itemProduction_of_hasPlaces hr (by simp [hn]) room
    refine ⟨_, ?_, get_foldl_accumulatePixel _ s.engine.accumulators⟩
    rw [hexec, State.produce_row hn ((s.outputRow_setEngine ..).trans hrow) ?length ?reserved]
    · rfl
    case length => rw [List.length_map, List.length_range]
    case reserved => exact Run.places_row hn

end Sys2Proof.Machine

/-! PROOFS. The ROW cells of a row: groups of 48 pixels, four of them packed into five bytes, and the
layout of the cell that carries them. -/

namespace Sys2Proof.Machine

/-! ## Big-endian fields (R146) -/

@[simp] theorem length_bigEndian (k n : Nat) : (bigEndian k n).length = k := by
  induction k generalizing n with
  | zero => rfl
  | succ k ih => simp [bigEndian, ih]

/-- A field of `k` bytes spells its number up to what `k` bytes hold. -/
theorem fromBigEndian_bigEndian (k n : Nat) : fromBigEndian (bigEndian k n) = n % 256 ^ k := by
  induction k generalizing n with
  | zero => simp [bigEndian, fromBigEndian, Nat.mod_one]
  | succ k ih =>
    have hfront : (bigEndian k (n / 256)).foldl (fun acc b => acc * 256 + b.toNat) 0
        = n / 256 % 256 ^ k := ih (n / 256)
    have hlow : (BitVec.ofNat 8 n).toNat = n % 256 := BitVec.toNat_ofNat ..
    rw [bigEndian, fromBigEndian, List.foldl_append, hfront, List.foldl_cons, List.foldl_nil, hlow,
      Nat.pow_succ', Nat.mod_mul]
    omega

/-! ## Packed pixels (TABLE 8-5) -/

/-- Pixel `i` of four packed into five bytes stands `30 - 10 * i` bits above the lowest. -/
theorem packFour_pixel {a b c d i : Nat} (hi : i < 4) (ha : a < 1024) (hb : b < 1024)
    (hc : c < 1024) (hd : d < 1024) :
    [a, b, c, d][i]? = some (fromBigEndian (packFour a b c d) / 2 ^ (30 - 10 * i) % 1024) := by
  have hsum : (a * 2 ^ 30 + b * 2 ^ 20 + c * 2 ^ 10 + d) % 256 ^ 5
      = a * 2 ^ 30 + b * 2 ^ 20 + c * 2 ^ 10 + d := Nat.mod_eq_of_lt (by omega)
  rw [packFour, fromBigEndian_bigEndian, hsum]
  interval_cases i <;> simp <;> omega

/-- Whole groups of four pixels take five bytes each. -/
theorem length_packPixels (pixels : List Nat) (h : pixels.length % 4 = 0) :
    (packPixels pixels).length = pixels.length / 4 * 5 := by
  induction pixels using packPixels.induct with
  | case1 a b c d rest ih =>
    simp only [List.length_cons] at h
    simp only [packPixels, packFour, List.length_append, length_bigEndian, List.length_cons,
      ih (by omega)]
    omega
  | case2 => rfl
  | case3 | case4 | case5 => simp at h

/-- Pixel `j` stands in the five bytes of its group of four. -/
theorem packPixels_pixel (pixels : List Nat) (h : pixels.length % 4 = 0)
    (hv : ∀ v ∈ pixels, v < 1024) {j : Nat} (hj : j < pixels.length) :
    pixels[j]? = some (fromBigEndian (((packPixels pixels).drop (j / 4 * 5)).take 5)
      / 2 ^ (30 - 10 * (j % 4)) % 1024) := by
  induction pixels using packPixels.induct generalizing j with
  | case1 a b c d rest ih =>
    obtain ⟨ha, hb, hc, hd, hrest⟩ :
        a < 1024 ∧ b < 1024 ∧ c < 1024 ∧ d < 1024 ∧ ∀ v ∈ rest, v < 1024 := by simpa using hv
    have hfour : (packFour a b c d).length = 5 := length_bigEndian ..
    simp only [List.length_cons] at h hj
    rw [packPixels]
    by_cases hlow : j < 4
    · have hsame : (a :: b :: c :: d :: rest)[j]? = [a, b, c, d][j]? :=
        List.getElem?_append_left (l₁ := [a, b, c, d]) hlow
      rw [hsame, Nat.div_eq_of_lt hlow, Nat.mod_eq_of_lt hlow, Nat.zero_mul, List.drop_zero,
        List.take_left' hfour]
      exact packFour_pixel hlow ha hb hc hd
    · obtain ⟨i, rfl⟩ : ∃ i, j = i + 4 := ⟨j - 4, by omega⟩
      have hplace : (i + 4) / 4 * 5 = (packFour a b c d).length + i / 4 * 5 := by omega
      rw [hplace, List.drop_length_add_append, Nat.add_mod_right]
      exact ih (by omega) hrest (by omega)
  | case2 => simp at hj
  | case3 | case4 | case5 => simp at h

/-! ## ROW cells (R28, TABLE 8-5) -/

/-- Group `k` of a list holds its entries from `size * k` on. -/
theorem getElem?_groups {α : Type} {size : Nat} (hs : 0 < size) (fuel k : Nat) (l : List α)
    (hl : l.length ≤ fuel) (hk : size * k < l.length) :
    (groups fuel size l)[k]? = some ((l.drop (size * k)).take size) := by
  induction fuel generalizing l k with
  | zero => omega
  | succ fuel ih =>
    cases l with
    | nil => simp at hk
    | cons a rest =>
      cases k with
      | zero => rfl
      | succ k =>
        rw [Nat.mul_succ] at hk ⊢
        rw [groups, List.getElem?_cons_succ, ih, List.drop_drop, Nat.add_comm size]
        · simp only [List.length_drop, List.length_cons] at hl ⊢
          omega
        · rw [List.length_drop]
          omega

/-- The cells of a row are those of its groups of 48 pixels. -/
theorem getElem?_rowCells (l : LinkUnit) (number : BitVec 16) (row : Nat) {values : List Nat}
    {k : Nat} (hk : 48 * k < values.length) :
    (rowCells l number row values)[k]? =
      some (createCell l .row 0 (rowContent number row k ((values.drop (48 * k)).take 48))) := by
  rw [rowCells, List.getElem?_mapIdx, getElem?_groups (by omega) _ _ _ (Nat.le_refl _) hk]
  rfl

/-- The four bytes before the pixels of a ROW cell: frame, row and segment index. -/
def rowHeader (number : BitVec 16) (row segment : Nat) : List Byte :=
  [number.extractLsb' 0 8, BitVec.ofNat 8 (row / 256), BitVec.ofNat 8 row, BitVec.ofNat 8 segment]

theorem rowContent_eq (number : BitVec 16) (row segment : Nat) (pixels : List Nat) :
    rowContent number row segment pixels = rowHeader number row segment ++ packPixels pixels := rfl

/-- What a ROW cell of at most 48 pixels carries: its header, the pixels packed, and zeros to the end of
the payload. -/
theorem padPayload_rowContent (number : BitVec 16) (row segment : Nat) {pixels : List Nat}
    (h4 : pixels.length % 4 = 0) (hle : pixels.length ≤ 48) (hv : ∀ v ∈ pixels, v < 1024) :
    let payload := padPayload (rowContent number row segment pixels)
    payload.length = 64 ∧ payload.take 4 = rowHeader number row segment
      ∧ (∀ j, j < pixels.length → pixels[j]? = some (fromBigEndian
          ((payload.drop (4 + j / 4 * 5)).take 5) / 2 ^ (30 - 10 * (j % 4)) % 1024))
      ∧ ∀ m, 4 + pixels.length * 5 / 4 ≤ m → m < 64 → payload[m]? = some 0 := by
  have hhead : (rowHeader number row segment).length = 4 := rfl
  have hpack := length_packPixels pixels h4
  rw [rowContent_eq, padPayload, List.append_assoc]
  refine ⟨?length, List.take_left' hhead, ?read, ?zeros⟩
  case length =>
    simp only [List.length_append, List.length_replicate, hhead, hpack]
    omega
  case read =>
    intro j hj
    have hskip (n : Nat) (x : List Byte) :
        (rowHeader number row segment ++ x).drop (4 + n) = x.drop n :=
      List.drop_length_add_append (l₁ := rowHeader number row segment) n
    rw [hskip, List.drop_append_of_le_length (by omega),
      List.take_append_of_le_length (by rw [List.length_drop]; omega)]
    exact packPixels_pixel pixels h4 hv hj
  case zeros =>
    intro m hm hm'
    rw [← List.append_assoc,
      List.getElem?_append_right (by rw [List.length_append, hhead, hpack]; omega),
      List.getElem?_replicate_of_lt]
    simp only [List.length_append, hhead, hpack]
    omega

/-- The used length of a ROW cell of at most 48 pixels. -/
theorem used_rowCell (l : LinkUnit) (number : BitVec 16) (row segment : Nat) {pixels : List Nat}
    (h4 : pixels.length % 4 = 0) (hle : pixels.length ≤ 48) :
    (createCell l .row 0 (rowContent number row segment pixels)).used.toNat
      = 4 + pixels.length * 5 / 4 := by
  have hlen : (rowContent number row segment pixels).length = 4 + pixels.length * 5 / 4 := by
    rw [rowContent_eq, List.length_append, length_packPixels pixels h4]
    simp only [rowHeader, List.length_cons, List.length_nil]
    omega
  rw [createCell, byteOf, hlen, BitVec.toNat_ofNat]
  omega

/-- Settles O42: cell `k` packs the group of 48 pixels from column `48 * k` on, and every group of four
pixels can be read back from its five bytes. -/
theorem rowCellsCarryThePixels : Obligations.RowCellsCarryThePixels := by
  intro l number row values hlen hv
  have hcells := length_rowCells l number row values
  refine ⟨hcells, fun k hk => ?_⟩
  have hk' : 48 * k < values.length := by
    rw [hcells, ceilDiv] at hk
    omega
  have hpixels : ((values.drop (48 * k)).take 48).length = min 48 (values.length - 48 * k) := by
    rw [List.length_take, List.length_drop]
  have h4 : ((values.drop (48 * k)).take 48).length % 4 = 0 := by omega
  have hle : ((values.drop (48 * k)).take 48).length ≤ 48 := List.length_take_le ..
  obtain ⟨hsize, hhead, hread, hzero⟩ := padPayload_rowContent number row k h4 hle
    fun v h => hv v (List.mem_of_mem_drop (List.mem_of_mem_take h))
  have hused := used_rowCell l number row k h4 hle
  refine ⟨_, getElem?_rowCells l number row hk', rfl, rfl, rfl, rfl, hsize, hhead, ?used, ?pixels,
    fun m hm => hzero m (hused ▸ hm)⟩
  case used => rw [hused, hpixels]
  case pixels =>
    intro j hj
    have hcol : ((values.drop (48 * k)).take 48)[j]? = values[48 * k + j]? := by
      rw [List.getElem?_take_of_lt (by omega), List.getElem?_drop]
    rw [← hcol]
    exact hread j (by omega)

end Sys2Proof.Machine

/-! PROOFS. WARP FRAME END: the FRAME END placed, the frame handed over, and the occasion for a STATUS
cell it makes. -/

namespace Sys2Proof.Machine

/-! ## The occasion for a STATUS cell (R174) -/

/-- Latching while the Warp Engine runs sets latches and makes no occasion (R174 case b). -/
theorem State.latch_of_running {s : State} {r : Run} (hr : s.engine.run = some r)
    (ks : List EventKind) : s.latch ks = s.setLatches ks := by
  have hquiet : latchingCalls s ks = false := by simp [latchingCalls, hr]
  simp [State.latch, hquiet]

/-- A FRAME END calls for a STATUS cell under EVERY FRAME and, else, while an enabled latch is set. -/
theorem frameEndCalls_iff (s : State) :
    frameEndCalls s = true ↔
      (s.effectiveMode = .everyFrame
        ∨ (s.effectiveMode = .whileTravelling ∧ s.position.mode = .travel))
      ∨ s.link.latches &&& s.params.eventMask ≠ 0 := by
  unfold frameEndCalls State.reportsOnEvent
  cases s.effectiveMode <;> simp

/-- An occasion leaves a STATUS cell waiting or owed (R168, R173). -/
theorem statusOccasion_waits (s : State) :
    (statusOccasion s).statusOwed = true
      ∨ ∃ c ∈ (statusOccasion s).management, c.kind = .status := by
  unfold statusOccasion
  split
  · rename_i hany
    obtain ⟨c, hc, hs⟩ := List.any_eq_true.mp hany
    exact .inr ⟨rebuildStatus s c, List.mem_map.mpr ⟨c, hc, by simp [hs]⟩, of_decide_eq_true hs⟩
  · split
    · exact .inl ‹_›
    · split
      · exact .inr ⟨_, List.mem_append_right _ (List.mem_singleton_self _), rfl⟩
      · exact .inl rfl

/-- The STATUS occasion of a FRAME END loses no event. -/
theorem State.frameEndStatus_reported {s : State} {k : EventKind} (h : s.latched k = true) :
    s.frameEndStatus.Reported k := by
  unfold State.frameEndStatus
  split
  · exact statusOccasion_reported h
  · exact .inl h

/-- What the engine holds makes no difference to the STATUS occasion of a FRAME END. -/
theorem State.frameEndStatus_setEngine (s : State) (f : WarpEngine → WarpEngine) :
    s.frameEndStatus.setEngine (f s.frameEndStatus.engine)
      = (s.setEngine (f s.engine)).frameEndStatus := rfl

/-! ## The frame handed over (R31, R32, R33) -/

/-- The events the hand-over of a frame latches (R120, R121). -/
def State.handOverEvents (s : State) (record : FrameRecord) (zones : Eight ZoneResult) :
    List EventKind :=
  eventIf ((s.handOverOutcomes record zones).any SegmentOutcome.tuneDone) .tuneDone
    ++ eventIf ((s.handOverOutcomes record zones).any SegmentOutcome.tuneError) .tuneError

theorem State.tuneDone_mem_handOverEvents (s : State) {record : FrameRecord}
    {zones : Eight ZoneResult}
    (h : ∃ i, ((s.handOverOutcomes record zones).get i).tuneDone = true) :
    .tuneDone ∈ s.handOverEvents record zones := by
  simp [State.handOverEvents, eventIf, (Eight.any_iff SegmentOutcome.tuneDone _).mpr h]

theorem State.tuneError_mem_handOverEvents (s : State) {record : FrameRecord}
    {zones : Eight ZoneResult}
    (h : ∃ i, ((s.handOverOutcomes record zones).get i).tuneError = true) :
    .tuneError ∈ s.handOverEvents record zones := by
  simp [State.handOverEvents, eventIf, (Eight.any_iff SegmentOutcome.tuneError _).mpr h]

/-- A frame handed over, before the STATUS occasion of its FRAME END (R32): the cell placed into the
one place it had, the slot FREE, the segments judged, the engine IDLE. -/
def State.handedOver (s : State) (r : Run) (record : FrameRecord) : State :=
  { s with
    slots := s.slots.set r.slot Slot.freed
    engine := { s.engine with
      run := none, reserved := 0, lastFrame := some r.number, lastZones := s.engine.results }
    lamps := { s.lamps with
      segments := (s.handOverOutcomes record s.engine.results).map SegmentOutcome.drive }
    link := { s.link with
      ownVideo := s.link.ownVideo
        ++ [createCell s.link .frameEnd 0 (frameEndContent r.number s.engine.results record)]
      latches := s.link.latches ||| eventMarks (s.handOverEvents record s.engine.results) } }

/-- The hand-over judges segments by parameters, lamps and protection, not by slots or the queue. -/
theorem State.handOverOutcomes_setSlots_placeVideo (s : State) (x : SlotPool) (cells : List Cell)
    (record : FrameRecord) (zones : Eight ZoneResult) :
    ((s.placeVideo cells).setSlots x).handOverOutcomes record zones
      = s.handOverOutcomes record zones := rfl

/-- The engine that ends a frame with one place reserved hands the frame over and judges the occasion. -/
theorem State.endWarp_eq {s : State} {r run : Run} {record : FrameRecord}
    (hr : s.engine.run = some run) (hres : s.engine.reserved = 1) :
    s.endWarp r record = (s.handedOver r record).frameEndStatus := by
  rw [State.endWarp, State.handFrame, State.handOverOutcomes_setSlots_placeVideo,
    State.latch_of_running (r := run) (by exact hr)]
  refine (State.frameEndStatus_setEngine _
    fun e => e.ended r.number s.engine.results).trans (congrArg State.frameEndStatus ?_)
  simp only [State.handedOver, State.handOverEvents, State.placeVideo, State.setLatches,
    State.setEngine, State.setLink, State.setLamps, State.setSlots, WarpEngine.ended,
    List.length_singleton, hres, Nat.sub_self]

/-- A RUNNING engine stays RUNNING as it claims places. -/
theorem State.claimPlaces_running {s : State} {r run : Run} (hr : s.engine.run = some run) :
    ∃ run', (s.claimPlaces r).1.engine.run = some run' := by
  unfold State.claimPlaces
  split
  · exact ⟨run, hr⟩
  · split <;> exact ⟨_, rfl⟩

theorem Run.places_frameEnd {r : Run} (h : r.next = .frameEnd) : r.places = 1 := by
  simp only [Run.places, h]

section
variable {s : State} {r : Run} {record : FrameRecord}

/-- WARP FRAME END of the frame in hand claims a place and ends the frame when it has one. -/
theorem exec_warpFrameEnd (hr : s.engine.run = some r) (hn : r.next = .frameEnd)
    (hrec : (s.slots.get r.slot).record = some record) :
    exec .warpFrameEnd s =
      .next (if (s.claimPlaces r).2 then (s.claimPlaces r).1.endWarp r record
        else (s.claimPlaces r).1) := by
  have hexec : exec .warpFrameEnd s = execWarpFrameEnd s := rfl
  rw [hexec]
  simp only [execWarpFrameEnd, hr, hn, hrec]

/-- Without a free place the engine is STALLED and nothing else changes (R27). -/
theorem exec_warpFrameEnd_of_not_hasPlaces (hr : s.engine.run = some r) (hn : r.next = .frameEnd)
    (hrec : (s.slots.get r.slot).record = some record) (h : ¬s.HasPlaces r) :
    exec .warpFrameEnd s = .next (s.setRun { r with stalled := true }) := by
  rw [exec_warpFrameEnd hr hn hrec, State.claimPlaces_of_not_hasPlaces h]
  rfl

/-- With its place the frame is handed over and the occasion judged (R32, R174). -/
theorem exec_warpFrameEnd_of_hasPlaces (hr : s.engine.run = some r) (hn : r.next = .frameEnd)
    (hrec : (s.slots.get r.slot).record = some record) (h : s.HasPlaces r) :
    exec .warpFrameEnd s = .next (s.handedOver r record).frameEndStatus := by
  obtain ⟨run', hclaim⟩ := State.claimPlaces_of_hasPlaces h
  obtain ⟨run, hrun⟩ := State.claimPlaces_running (r := r) hr
  rw [hclaim] at hrun
  rw [exec_warpFrameEnd hr hn hrec, hclaim]
  exact congrArg _ (State.endWarp_eq hrun (Run.places_frameEnd hn))

/-- An event of the hand-over is latched in the frame handed over. -/
theorem State.handedOver_latched {k : EventKind}
    (h : k ∈ s.handOverEvents record s.engine.results) :
    (s.handedOver r record).latched k = true := by
  simp [State.latched, State.handedOver, eventMarks_getLsbD h]

end

theorem ZoneResult.bytes_eq (z : ZoneResult) :
    z.bytes = bigEndian 2
      (z.mean + (if z.unseen then 16384 else 0) + (if z.glare then 32768 else 0)) := by
  cases hu : z.unseen <;> cases hg : z.glare <;> simp [ZoneResult.bytes, bit, hu, hg]

/-- The content of a FRAME END, field by field (TABLE 8-5). -/
theorem frameEndContent_eq (number : BitVec 16) (zones : Eight ZoneResult) (record : FrameRecord) :
    frameEndContent number zones record =
      halfBytes number
        ++ zones.toList.flatMap (fun z => bigEndian 2
          (z.mean + (if z.unseen then 16384 else 0) + (if z.glare then 32768 else 0)))
        ++ bigEndian 2 record.unrepaired ++ bigEndian 2 record.repaired := by
  rw [frameEndContent, ← funext ZoneResult.bytes_eq]
  rfl

/-- TUNE DONE is latch bit 5 and TUNE ERROR bit 6 (TABLE 10-5). -/
theorem eventMarks_tune (done error : Bool) :
    eventMarks (eventIf done .tuneDone ++ eventIf error .tuneError) =
      (if done = true then 0x20 else 0) ||| (if error = true then 0x40 else 0) := by
  cases done <;> cases error <;> decide

theorem State.hasPlaces_frameEnd_iff {s : State} {r : Run} (hn : r.next = .frameEnd) :
    s.HasPlaces r ↔
      (s.engine.reserved = 1 ∨ s.link.ownVideo.length + s.engine.reserved + 1 ≤ 192) := by
  rw [State.HasPlaces, Run.places_frameEnd hn]

/-- Settles O43: the hand-over runs while the engine is still RUNNING, so its events only latch; the
occasion of the FRAME END is then judged on the state handed over. -/
theorem frameEndHandsOver : Obligations.FrameEndHandsOver := by
  intro s r record hr hn hrec room zones bytes outcomes
  have hplaces : s.HasPlaces r ↔ room := State.hasPlaces_frameEnd_iff hn
  refine ⟨fun hroom => exec_warpFrameEnd_of_not_hasPlaces hr hn hrec (mt hplaces.mp hroom),
    fun hroom => ?_⟩
  intro latches handed everyFrame
  have hlatches :
      latches = s.link.latches ||| eventMarks (s.handOverEvents record s.engine.results) := by
    rw [State.handOverEvents, eventMarks_tune, ← BitVec.or_assoc]
    simp only [Eight.any_iff]
    rfl
  have hhanded : handed = s.handedOver r record := by
    simp only [handed, hlatches, State.handedOver, frameEndContent_eq]
    rfl
  have hcalls : frameEndCalls handed = true ↔ everyFrame ∨ latches &&& s.params.eventMask ≠ 0 :=
    frameEndCalls_iff handed
  have hreported (k : EventKind) (hk : k ∈ s.handOverEvents record s.engine.results) :
      handed.frameEndStatus.Reported k :=
    State.frameEndStatus_reported (hhanded ▸ State.handedOver_latched hk)
  refine ⟨handed.frameEndStatus,
    hhanded ▸ exec_warpFrameEnd_of_hasPlaces hr hn hrec (hplaces.mpr hroom), ?occasion, ?quiet,
    fun h => hreported _ (s.tuneDone_mem_handOverEvents h),
    fun h => hreported _ (s.tuneError_mem_handOverEvents h)⟩
  case occasion =>
    intro h
    rw [State.frameEndStatus, if_pos (hcalls.mpr h)]
    exact ⟨rfl, statusOccasion_waits handed⟩
  case quiet =>
    intro hmode hmask
    rw [State.frameEndStatus, if_neg (mt hcalls.mp (by simp [hmode, hmask]))]
    rfl

end Sys2Proof.Machine

/-! PROOFS. WARP FRAME START: the pending view taken up, tunes aborted by a new zone map, and the frame
and its FRAME START cell. -/

namespace Sys2Proof.Machine

/-! ## Tunes aborted (R123) -/

theorem SegmentDrive.abortTune_of_tuning {d : SegmentDrive} {trial duty preTune : Nat}
    {first : Option (BitVec 16)} (h : d.tune = .tuning trial duty first preTune) :
    d.abortTune = { d with staged := preTune, tune := .steady, verdict := .aborted } := by
  simp only [SegmentDrive.abortTune, h]

theorem SegmentDrive.abortTune_of_not_isTuning {d : SegmentDrive} (h : d.isTuning = false) :
    d.abortTune = d := by
  cases ht : d.tune <;> simp [SegmentDrive.isTuning, SegmentDrive.abortTune, ht] at h ⊢

theorem IlluminationUnit.get_abortTunes (u : IlluminationUnit) (i : Fin 8) :
    u.abortTunes.segments.get i = (u.segments.get i).abortTune :=
  Eight.get_map ..

/-! ## The pending view taken up (R23, R40) -/

namespace ViewBankStore

variable {v : ViewBankStore}

theorem get_retired (k : BankId) :
    v.retired.get k =
      if (v.get k).state = .active then { v.get k with state := .valid } else v.get k := by
  cases k <;> rfl

theorem get_retired_not_active (k : BankId) : (v.retired.get k).state ≠ .active := by
  rw [get_retired]
  split
  · simp
  · assumption

/-- A bank retired and then made ACTIVE is that bank made ACTIVE. -/
theorem activate_retired (k : BankId) :
    ({ v.retired.get k with state := .active } : Bank) = { v.get k with state := .active } := by
  rw [get_retired]
  split <;> rfl

theorem takeUp_of_none (h : v.pendingView = none) : v.takeUp = v := by
  simp only [takeUp, h]

theorem takeUp_of_bank {b : BankId} (h : v.pendingView = some (.bank b)) :
    v.takeUp = { v.retired.set b { v.get b with state := .active } with pendingView := none } := by
  simp only [takeUp, h, activate_retired]

theorem takeUp_of_raw (h : v.pendingView = some .raw) :
    v.takeUp = { v.retired with pendingView := none } := by
  simp only [takeUp, h]

/-- What is held pending makes no difference to the banks. -/
theorem get_setPendingView (x : Option View) (k : BankId) :
    ({ v with pendingView := x } : ViewBankStore).get k = v.get k := by
  cases k <;> rfl

theorem get_takeUp_of_bank {b : BankId} (h : v.pendingView = some (.bank b)) (k : BankId) :
    v.takeUp.get k = if k = b then { v.get k with state := .active } else v.retired.get k := by
  rw [takeUp_of_bank h, get_setPendingView, get_set]
  by_cases hk : k = b
  · rw [if_pos hk, if_pos hk, hk]
  · rw [if_neg hk, if_neg hk]

theorem get_takeUp_of_raw (h : v.pendingView = some .raw) (k : BankId) :
    v.takeUp.get k = v.retired.get k := by
  rw [takeUp_of_raw h, get_setPendingView]

/-- The one ACTIVE bank is the view in force (R40). -/
theorem inForce_of_active {b : BankId} (hb : (v.get b).state = .active)
    (hother : ∀ k, k ≠ b → (v.get k).state ≠ .active) : v.inForce = .bank b := by
  cases b with
  | bank0 => exact if_pos hb
  | bank1 => exact (if_neg (hother .bank0 (by decide))).trans (if_pos hb)

/-- With no bank ACTIVE the raw view is in force (R40). -/
theorem inForce_of_no_active (h : ∀ k, (v.get k).state ≠ .active) : v.inForce = .raw :=
  (if_neg (h .bank0)).trans (if_neg (h .bank1))

/-- A bank in force is ACTIVE (R40). -/
theorem active_of_inForce {b : BankId} (h : v.inForce = .bank b) : (v.get b).state = .active := by
  unfold inForce at h
  split at h
  · cases h
    assumption
  · split at h <;> cases h
    assumption

theorem inForce_takeUp_of_bank {b : BankId} (h : v.pendingView = some (.bank b)) :
    v.takeUp.inForce = .bank b := by
  apply inForce_of_active
  · rw [get_takeUp_of_bank h, if_pos rfl]
  · intro k hk
    rw [get_takeUp_of_bank h, if_neg hk]
    exact get_retired_not_active k

theorem inForce_takeUp_of_raw (h : v.pendingView = some .raw) : v.takeUp.inForce = .raw := by
  apply inForce_of_no_active
  intro k
  rw [get_takeUp_of_raw h]
  exact get_retired_not_active k

/-! ## Zone maps (R23) -/

/-- A change of view takes up another view than raw after raw. -/
theorem not_raw_raw_of_swaps (h : v.swaps = true) :
    ¬(v.inForce = .raw ∧ v.takeUp.inForce = .raw) := by
  rintro ⟨hold, hnew⟩
  cases hp : v.pendingView with
  | none => simp [swaps, hp] at h
  | some view =>
    cases view with
    | bank b => rw [inForce_takeUp_of_bank hp] at hnew; cases hnew
    | raw => simp [swaps, hp, hold] at h

/-- A view that is the raw one or a bank with a header. -/
def Loaded (v : ViewBankStore) (view : View) : Prop :=
  ∀ b, view = .bank b → ∃ h, (v.get b).header = some h

theorem zoneMap_bank {b : BankId} {h : Header} (hh : (v.get b).header = some h) :
    v.zoneMap (.bank b) =
      some (h.wo, h.ho, (List.range (h.wo / 16 * (h.ho / 16))).map (v.get b).zone) := by
  simp only [zoneMap, hh]
  rfl

/-- Two views, not both raw, have the same zone map when they are banks of one size with the same zone
in every cell. -/
theorem zoneMap_eq_iff {w : ViewBankStore} {x y : View} (hx : v.Loaded x) (hy : w.Loaded y)
    (hraw : ¬(x = .raw ∧ y = .raw)) :
    v.zoneMap x = w.zoneMap y ↔
      ∃ old new h h', x = .bank old ∧ y = .bank new
        ∧ (v.get old).header = some h ∧ (w.get new).header = some h'
        ∧ h.wo = h'.wo ∧ h.ho = h'.ho
        ∧ ∀ c, c < h.wo / 16 * (h.ho / 16) → (v.get old).zone c = (w.get new).zone c := by
  cases x with
  | raw =>
    cases y with
    | raw => exact absurd ⟨rfl, rfl⟩ hraw
    | bank new =>
      obtain ⟨h', hh'⟩ := hy new rfl
      simp [zoneMap, hh']
  | bank old =>
    obtain ⟨h, hh⟩ := hx old rfl
    cases y with
    | raw => simp [zoneMap, hh]
    | bank new =>
      obtain ⟨h', hh'⟩ := hy new rfl
      rw [zoneMap_bank hh, zoneMap_bank hh']
      constructor
      · intro heq
        simp only [Option.some.injEq, Prod.mk.injEq] at heq
        obtain ⟨hwo, hho, hzones⟩ := heq
        rw [← hwo, ← hho, List.map_inj_left] at hzones
        exact ⟨old, new, h, h', rfl, rfl, hh, hh', hwo, hho,
          fun c hc => hzones c (List.mem_range.mpr hc)⟩
      · rintro ⟨_, _, _, _, ⟨⟩, ⟨⟩, hk, hk', hwo, hho, hzones⟩
        obtain rfl := Option.some.inj (hh.symm.trans hk)
        obtain rfl := Option.some.inj (hh'.symm.trans hk')
        rw [← hwo, ← hho,
          List.map_inj_left.mpr fun c hc => hzones c (List.mem_range.mp hc)]

end ViewBankStore

/-- The view in force of a sound store is loaded: an ACTIVE bank is not EMPTY (R38). -/
theorem State.BanksSound.loaded_inForce {s : State} (h : s.BanksSound) :
    s.views.Loaded s.views.inForce := by
  intro b hb
  have hactive := ViewBankStore.active_of_inForce hb
  obtain ⟨⟨hempty0, _⟩, ⟨hempty1, _⟩, _⟩ := h
  have hheader : (s.views.get b).header ≠ none := by
    cases b with
    | bank0 => exact fun hn => by simp [hempty0.mpr hn, ViewBankStore.get] at hactive
    | bank1 => exact fun hn => by simp [hempty1.mpr hn, ViewBankStore.get] at hactive
  exact Option.ne_none_iff_exists'.mp hheader

/-! ## The frame started (R22 to R26) -/

theorem frameFlags_eq (r : FrameRecord) (resetSeen : Bool) :
    frameFlags r resetSeen =
      (if r.markers.any Option.isSome then 1 else 0) + (if r.dark then 2 else 0)
        + (if r.derated then 4 else 0) + (if r.shutdown then 8 else 0)
        + (if r.ledFault then 16 else 0) + (if r.short then 32 else 0)
        + (if resetSeen then 64 else 0) := by
  have hbit (k : Nat) (b : Bool) : k * bit b = if b then k else 0 := by cases b <;> simp [bit]
  simp only [frameFlags, hbit]
  rfl

/-- The content of a FRAME START, field by field (TABLE 8-5). -/
theorem frameStartContent_eq (number : BitVec 16) (r : FrameRecord) (view : View) (wo ho : Nat)
    (temperature : Int) (resetSeen : Bool) :
    frameStartContent number r view wo ho temperature resetSeen =
      halfBytes number
        ++ [BitVec.ofNat 8 (causeCode r.cause), BitVec.ofNat 8 (modeCode r.mode)]
        ++ signedBytes r.tag ++ signedBytes r.position ++ bigEndian 2 r.eEff ++ bigEndian 2 r.gx
        ++ [BitVec.ofNat 8 (viewCode view)]
        ++ bigEndian 2 ((if r.markers.any Option.isSome then 1 else 0) + (if r.dark then 2 else 0)
          + (if r.derated then 4 else 0) + (if r.shutdown then 8 else 0)
          + (if r.ledFault then 16 else 0) + (if r.short then 32 else 0)
          + (if resetSeen then 64 else 0))
        ++ [BitVec.ofNat 8 r.skippedBefore] ++ bigEndian 2 wo ++ bigEndian 2 ho
        ++ r.applied.toList.flatMap (bigEndian 2) ++ [BitVec.ofNat 8 (temperature + 40).toNat] := by
  rw [frameStartContent, frameFlags_eq]
  rfl

/-- A FRAME START uses 41 bytes (TABLE 8-5). -/
theorem length_frameStartContent (number : BitVec 16) (r : FrameRecord) (view : View) (wo ho : Nat)
    (temperature : Int) (resetSeen : Bool) :
    (frameStartContent number r view wo ho temperature resetSeen).length = 41 := by
  simp [frameStartContent, signedBytes, halfBytes, Eight.toList, Eight.map, Eight.build]

/-- An IDLE engine with a READY slot starts its frame (R22). -/
theorem exec_warpFrameStart_of_ready {s : State} {i : SlotId} {rest : List SlotId}
    {r : FrameRecord} {wo ho : Nat} (hidle : s.engine.run = none)
    (hready : s.slots.readyOrder = i :: rest) (hrec : (s.slots.get i).record = some r)
    (hsize : s.views.takeUp.outputSize s.views.takeUp.inForce (s.slots.get i) = some (wo, ho)) :
    exec .warpFrameStart s = .next (s.startFrame { slot := i, rest, record := r, wo, ho }) := by
  have hnext : s.nextFrame = some { slot := i, rest, record := r, wo, ho } := by
    simp only [State.nextFrame, hidle, hready, hrec, hsize]
  have hexec : exec .warpFrameStart s = execWarpFrameStart s := rfl
  rw [hexec, execWarpFrameStart, hnext]

/-- The events a frame start latches (R23, R123). -/
def State.frameStartEvents (s : State) : List EventKind :=
  eventIf s.views.swaps .bankSwapped
    ++ eventIf (s.views.changesZones && s.lamps.anyTuning) .tuneDone

/-- A frame start, its events latched while the engine already runs. -/
theorem State.startFrame_eq (s : State) (t : FrameTake) :
    s.startFrame t = { s with
      slots := s.slots.takeReady t.slot t.rest
      views := s.views.takeUp
      engine := s.startedEngine t
      lamps := if s.views.changesZones then s.lamps.abortTunes else s.lamps
      link := { s.link with latches := s.link.latches ||| eventMarks s.frameStartEvents } } := by
  rw [State.startFrame, State.latch_of_running (by exact rfl)]
  simp only [State.setLatches, State.setEngine, State.setLink, State.setLamps, State.setSlots,
    State.setViews, State.frameStartEvents]

/-- The raster of a frame is that of the view it is taken through (R2). -/
theorem ViewBankStore.outputSize_of {v : ViewBankStore} {view : View} {slot : Slot} {wo ho : Nat}
    (h : match view with
      | .raw => wo = min slot.ws 1024 ∧ ho = slot.hs
      | .bank b => ∃ h, (v.get b).header = some h ∧ wo = h.wo ∧ ho = h.ho) :
    v.outputSize view slot = some (wo, ho) ∧ v.Loaded view := by
  cases view with
  | raw =>
    obtain ⟨rfl, rfl⟩ := h
    exact ⟨rfl, fun _ hb => by cases hb⟩
  | bank b =>
    obtain ⟨h, hh, rfl, rfl⟩ := h
    refine ⟨by simp only [outputSize, hh, Option.map_some], ?_⟩
    rintro _ ⟨⟩
    exact ⟨h, hh⟩

/-- Taking up the pending change changes the zone map when it swaps the view and the two views are not
banks of one size with the same zones (R23). -/
theorem ViewBankStore.changesZones_iff {v : ViewBankStore} (hold : v.Loaded v.inForce)
    (hnew : v.takeUp.Loaded v.takeUp.inForce) :
    v.changesZones = true ↔ v.swaps = true
      ∧ ¬∃ old new h h', v.inForce = .bank old ∧ v.takeUp.inForce = .bank new
        ∧ (v.get old).header = some h ∧ (v.takeUp.get new).header = some h'
        ∧ h.wo = h'.wo ∧ h.ho = h'.ho
        ∧ ∀ c, c < h.wo / 16 * (h.ho / 16) → (v.get old).zone c = (v.takeUp.get new).zone c := by
  rw [changesZones, Bool.and_eq_true, decide_eq_true_iff]
  exact and_congr_right fun hs => not_congr (zoneMap_eq_iff hold hnew (not_raw_raw_of_swaps hs))

/-- Latching keeps every part of the Link Unit that an answer or an event may not touch. -/
theorem LinkUnit.keptBy_latches (l : LinkUnit) (latches : BitVec 15) :
    l.KeptBy { l with latches } :=
  ⟨rfl, rfl, rfl, rfl, rfl, rfl, rfl, rfl, rfl⟩

/-- Settles O40: the view is taken up before the raster and the cell are formed, and the events are
latched with the engine already RUNNING, so no STATUS cell is called for. -/
theorem frameStartTakesSlotAndView : Obligations.FrameStartTakesSlotAndView := by
  refine ⟨⟨fun v => ⟨ViewBankStore.takeUp_of_none, ?bank, ?raw,
      fun _ => ViewBankStore.inForce_takeUp_of_bank, ViewBankStore.inForce_takeUp_of_raw⟩,
    fun u => ⟨rfl, rfl, fun i => ⟨?tuning, ?steady⟩⟩⟩, ?start⟩
  case bank =>
    intro b hb
    refine ⟨by rw [ViewBankStore.takeUp_of_bank hb],
      by rw [ViewBankStore.takeUp_of_bank hb]; exact ViewBankStore.verdict_set .., fun k => ?_⟩
    rw [ViewBankStore.get_takeUp_of_bank hb, ViewBankStore.get_retired]
  case raw =>
    intro hb
    refine ⟨by rw [ViewBankStore.takeUp_of_raw hb],
      by rw [ViewBankStore.takeUp_of_raw hb, ViewBankStore.retired], fun k => ?_⟩
    rw [ViewBankStore.get_takeUp_of_raw hb, ViewBankStore.get_retired]
  case tuning =>
    intro trial duty first preTune ht
    rw [IlluminationUnit.get_abortTunes, SegmentDrive.abortTune_of_tuning ht]
  case steady =>
    intro ht
    rw [IlluminationUnit.get_abortTunes, SegmentDrive.abortTune_of_not_isTuning ht]
  case start =>
    intro s i rest r view wo ho hsound hidle hready hrec v hview hsize swapped sameZones zonesChange
      flags bytes
    subst hview
    obtain ⟨hraster, hloaded⟩ := ViewBankStore.outputSize_of hsize
    have hchanges : s.views.changesZones = true ↔ zonesChange :=
      ViewBankStore.changesZones_iff hsound.loaded_inForce hloaded
    have hstart := s.startFrame_eq { slot := i, rest, record := r, wo, ho }
    have hreported (k : EventKind) (hk : k ∈ s.frameStartEvents) :
        (s.startFrame { slot := i, rest, record := r, wo, ho }).Reported k := by
      rw [hstart]
      exact .inl (by simp [State.latched, eventMarks_getLsbD hk])
    refine ⟨_, exec_warpFrameStart_of_ready hidle hready hrec hraster, ?state, ?aborted, ?kept,
      ?link, ?swap, ?tune, ?same⟩
    case state =>
      rw [hstart, State.startedEngine, State.frameStartCell, createCell, length_frameStartContent,
        frameStartContent_eq]
      rfl
    case aborted =>
      intro h
      rw [hstart, if_pos (hchanges.mpr h)]
    case kept =>
      intro h
      rw [hstart, if_neg (mt hchanges.mp h)]
    case link =>
      rw [hstart]
      exact LinkUnit.keptBy_latches ..
    case swap =>
      intro (h : s.views.swaps = true)
      exact hreported _ (by simp [State.frameStartEvents, eventIf, h])
    case tune =>
      intro h ht
      exact hreported _ (by simp [State.frameStartEvents, eventIf, hchanges.mpr h, ht])
    case same =>
      intro (h : s.views.swaps = false)
      have hnone : s.frameStartEvents = [] := by
        simp [State.frameStartEvents, ViewBankStore.changesZones, eventIf, h]
      rw [hstart, hnone]
      simp [eventMarks]

end Sys2Proof.Machine

/-! PROOFS. RESTART: what each block becomes, and the events of the STATUS cells it discards. -/

namespace Sys2Proof.Machine

/-! ## The blocks after RESTART (TABLE 10-7) -/

/-- A bank being loaded or checked is emptied, another kept (R57). -/
theorem ViewBankStore.get_restarted (v : ViewBankStore) (b : BankId) :
    v.restarted.get b =
      if (v.get b).state = .opened ∨ (v.get b).state = .checking then Bank.emptied
      else v.get b := by
  cases b <;> rfl

/-- Every slot is FREE after a reset or RESTART (R83, R84). -/
theorem SlotPool.get_reset (i : SlotId) : SlotPool.reset.get i = Slot.freed := by
  cases i <;> rfl

theorem IlluminationUnit.get_restarted (u : IlluminationUnit) (i : Fin 8) :
    u.restarted.segments.get i = { (u.segments.get i).abortTune with reseed := true } :=
  Eight.get_map ..

/-- A running probe leaves all eight results ABORTED (R143). -/
theorem LampProtection.abortProbe_eq (g : LampProtection) :
    g.abortProbe = { g with
      probe := if g.probe = .probing then .idle else g.probe
      results := if g.probe = .probing then Eight.all .aborted else g.results } := by
  unfold LampProtection.abortProbe
  split <;> rfl

/-- RESTART ends a probe and abandons sensing, and keeps all else of Lamp Protection (R145). -/
theorem LampProtection.restarted_eq (g : LampProtection) :
    g.restarted = { g with
      segments := g.segments.map fun x => { x with progress := 0, turnedOff := false }
      probe := .idle
      results := if g.probe = .probing then Eight.all .aborted else g.results } := by
  rw [LampProtection.restarted, LampProtection.windowAbandoned, LampProtection.abortProbe_eq]

/-! ## The events after RESTART (R176) -/

/-- A latch stands in the marks waiting STATUS cells carry when it stood before them or one of them
carries it. -/
theorem getLsbD_foldl_carried (cells : List Cell) (acc : BitVec 15) (n : Nat) :
    (cells.foldl (fun acc c => if isStatus c then acc ||| carriedLatches c else acc) acc).getLsbD n
        = true ↔
      acc.getLsbD n = true
        ∨ ∃ c ∈ cells, c.kind = .status ∧ (carriedLatches c).getLsbD n = true := by
  induction cells generalizing acc with
  | nil => simp
  | cons c rest ih =>
    rw [List.foldl_cons, ih]
    by_cases hs : c.kind = .status
    · simp [isStatus, hs, or_assoc]
    · simp [isStatus, hs]

/-- The latches and the waiting STATUS cells together hold just the events reported (R172, R173). -/
theorem State.reported_iff (s : State) (k : EventKind) :
    (s.link.latches ||| waitingLatches s.link.management).getLsbD k.index = true ↔
      s.Reported k := by
  rw [BitVec.getLsbD_or, Bool.or_eq_true, waitingLatches, getLsbD_foldl_carried]
  simp [State.Reported, State.latched]

/-- The mark of a kind holds the bit of that kind alone. -/
theorem EventKind.getLsbD_mark (a k : EventKind) :
    a.mark.getLsbD k.index = true ↔ k = a := by
  cases a <;> cases k <;> decide

/-- The marks of several kinds hold the bits of those kinds alone. -/
theorem eventMarks_getLsbD_iff (ks : List EventKind) (k : EventKind) :
    (eventMarks ks).getLsbD k.index = true ↔ k ∈ ks := by
  induction ks with
  | nil => simp [eventMarks]
  | cons a rest ih =>
    rw [List.mem_cons, ← ih, ← EventKind.getLsbD_mark, ← Bool.or_eq_true, ← BitVec.getLsbD_or]
    rfl

theorem mem_eventIf {b : Bool} {a k : EventKind} : k ∈ eventIf b a ↔ k = a ∧ b = true := by
  cases b <;> simp [eventIf]

/-- After RESTART the latches hold the events reported before it, RESET NOTICE, and TUNE DONE when it
aborted a tune (R129, R176). -/
theorem State.restarted_latches (s : State) (k : EventKind) :
    (s.link.restarted s.lamps.anyTuning).latches.getLsbD k.index = true ↔
      s.Reported k ∨ k = .resetNotice ∨ (k = .tuneDone ∧ s.lamps.anyTuning = true) := by
  rw [LinkUnit.restarted, BitVec.getLsbD_or, Bool.or_eq_true, State.reported_iff,
    eventMarks_getLsbD_iff, List.mem_cons, mem_eventIf]

/-! ## RESTART (R176) -/

/-- RESTART takes every block to its restarted one; its REPLY is the one cell of the management queue. -/
theorem State.executeRestart_eq (s : State) (tag : Byte) :
    s.executeRestart tag = { s with
      engine := s.engine.restarted, intake := s.intake.restarted, slots := SlotPool.reset
      views := s.views.restarted, position := s.position.restarted, lamps := s.lamps.restarted
      guard := s.guard.restarted
      link := { s.link.restarted s.lamps.anyTuning with
        management := [replyCell s.restarted tag 19 (.bare .done)], replyPlace := false } } := by
  have hempty : (s.link.restarted s.lamps.anyTuning).management = [] := rfl
  simp only [State.executeRestart, State.placeReply, LinkUnit.placeManagement, State.restarted,
    State.setEngine, State.setIntake, State.setSlots, State.setViews, State.setPosition,
    State.setLamps, State.setGuard, State.setLink, hempty, List.nil_append]

/-- Placing the REPLY does not change what it says. -/
theorem replyCell_placeReply (s : State) (tag number : Byte) (a : Answer) :
    replyCell (s.placeReply tag number a) tag number a = replyCell s tag number a := rfl

/-- Settles O26: each block is its own restarted one, and the REPLY finds the management queue empty. -/
theorem restartActsOnEveryBlock : Obligations.RestartActsOnEveryBlock := by
  intro s tag
  have hexec : exec (.restart tag) s = .next (s.executeRestart tag) := rfl
  have hreply : replyCell (s.executeRestart tag) tag 19 { code := .done, content := [] }
      = replyCell s.restarted tag 19 (.bare .done) := replyCell_placeReply ..
  rw [State.executeRestart_eq] at hexec hreply
  refine ⟨_, hexec, rfl, rfl, rfl, rfl, ⟨rfl, rfl, rfl, rfl, rfl, rfl, fun z => Eight.get_all _ z⟩,
    ?slots, rfl, ⟨rfl, rfl, rfl, rfl⟩, ?intake, fun b => s.views.get_restarted b, rfl, rfl, rfl,
    ⟨rfl, rfl, fun i => ⟨?steady, ?tuning⟩⟩, ⟨?guard, ?segments⟩, ?link,
    fun k => s.restarted_latches k⟩
  case slots =>
    intro i
    rw [SlotPool.get_reset]
    exact ⟨rfl, rfl, rfl⟩
  case intake =>
    rw [SensorIntake.restarted]
    refine ⟨?_, ?_, ?_, ?_, ?_⟩ <;> intros <;> simp only [*, Intake.restarted]
  case steady =>
    intro hi
    rw [IlluminationUnit.get_restarted, SegmentDrive.abortTune_of_not_isTuning hi]
  case tuning =>
    intro trial duty first preTune hi
    rw [IlluminationUnit.get_restarted, SegmentDrive.abortTune_of_tuning hi]
  case guard => rw [LampProtection.restarted_eq]
  case segments =>
    intro i
    rw [LampProtection.restarted_eq, Eight.get_map]
  case link =>
    rw [hreply]
    rfl

end Sys2Proof.Machine

/-! PROOFS. Every other block leaves the View Bank Store alone: no operation outside Chapter 3 changes
`State.views`, but for a frame's start, RESTART and the resets. -/

namespace Sys2Proof.Machine

/-! ## Lamp Protection (Chapter 7) -/

@[simp] theorem State.detect_views (s : State) (i : Fin 8) : (s.detect i).views = s.views := by
  simp [State.detect]

@[simp] theorem State.closeSense_views (s : State) (i : Fin 8) (peakCurrent voltage : Nat) :
    (s.closeSense i peakCurrent voltage).views = s.views := by
  simp only [State.closeSense]
  split <;> simp

@[simp] theorem State.cutWindow_views (s : State) : s.cutWindow.views = s.views := by
  unfold State.cutWindow
  split <;> simp

@[simp] theorem State.enterThermal_views (s : State) (thermal : Thermal) :
    (s.enterThermal thermal).views = s.views := by
  simp only [State.enterThermal, State.latch_views, State.setGuard_views]
  split <;> split <;> simp

@[simp] theorem State.sampled_views (s : State) (temperature : Int) :
    (s.sampled temperature).views = s.views := by
  simp only [State.sampled]
  split <;> simp

/-! ## Positions, triggers and exposures (Chapter 5) -/

@[simp] theorem State.raiseTime_views (s : State) : s.raiseTime.views = s.views := by
  simp [State.raiseTime]

@[simp] theorem State.raiseIfDue_views (s : State) : s.raiseIfDue.views = s.views := by
  unfold State.raiseIfDue
  split <;> simp

@[simp] theorem State.enterPark_views (s : State) : s.enterPark.views = s.views := by
  simp [State.enterPark]

@[simp] theorem State.parkIfPassed_views (s : State) : s.parkIfPassed.views = s.views := by
  unfold State.parkIfPassed
  split <;> simp

@[simp] theorem State.enterDwell_views (s : State) : s.enterDwell.views = s.views := by
  simp [State.enterDwell]

@[simp] theorem State.dwellIfPassed_views (s : State) : s.dwellIfPassed.views = s.views := by
  unfold State.dwellIfPassed
  split <;> simp

@[simp] theorem State.raiseDistance_views (s : State) (target : Int) :
    (s.raiseDistance target).views = s.views := by
  simp [State.raiseDistance]

@[simp] theorem State.distanceTest_views (s : State) : s.distanceTest.views = s.views := by
  unfold State.distanceTest
  split
  · simp
  · split <;> simp

@[simp] theorem State.creepTest_views (s : State) : s.creepTest.views = s.views := by
  unfold State.creepTest
  split
  · simp
  · split <;> simp

@[simp] theorem State.wakeTest_views (s : State) : s.wakeTest.views = s.views := by
  unfold State.wakeTest
  split
  · simp [State.wake]
  · rfl

@[simp] theorem State.afterExposure_views (s : State) (closed : Bool) :
    (s.afterExposure closed).views = s.views := by
  have hprobe (u : State) : u.startWaitingProbe.views = u.views := by
    unfold State.startWaitingProbe
    split <;> rfl
  have hmeets (u : State) : u.probeMeetsExposure.views = u.views := by
    unfold State.probeMeetsExposure
    split <;> simp [State.takeFree, State.startProbe]
  unfold State.afterExposure
  split
  · split <;> simp [hprobe, hmeets]
  · exact hprobe s

/-! ## Frames from the sensor (Chapter 4) -/

@[simp] theorem State.fillLine_views (s : State) (i : SlotId) (pixels : List (BitVec 12)) :
    (s.fillLine i pixels).views = s.views := by
  unfold State.fillLine
  split
  · rfl
  · split
    · rfl
    · split <;> rfl

@[simp] theorem State.endFilling_views (s : State) (i : SlotId) :
    (s.endFilling i).views = s.views := by
  unfold State.endFilling
  split
  · rfl
  · split <;> simp [State.voidFrame, State.completeFrame]

@[simp] theorem State.endPassing_views (s : State) (kind : PassKind) :
    (s.endPassing kind).views = s.views := by
  simp only [State.endPassing]
  split <;> simp

@[simp] theorem State.endFrame_views (s : State) : s.endFrame.views = s.views := by
  unfold State.endFrame
  split <;> simp

@[simp] theorem State.beginFrame_views (s : State) : s.beginFrame.views = s.views := by
  simp only [State.beginFrame]
  split
  · simp [State.passUnsolicited]
  · split <;> simp [State.dropFrame, State.claimFrame]

/-! ## The Warp Engine after a frame's start (Chapter 2) -/

@[simp] theorem State.claimPlaces_views (s : State) (r : Run) :
    (s.claimPlaces r).1.views = s.views := by
  unfold State.claimPlaces
  split
  · rfl
  · split <;> rfl

@[simp] theorem State.produce_views (s : State) (r : Run) : (s.produce r).views = s.views := by
  unfold State.produce
  split
  · rfl
  · split <;> rfl
  · rfl

@[simp] theorem State.endWarp_views (s : State) (r : Run) (record : FrameRecord) :
    (s.endWarp r record).views = s.views := by
  simp [State.endWarp, State.frameEndStatus, State.handFrame, State.placeVideo]

@[simp] theorem State.endStall_views (s : State) : s.endStall.views = s.views := by
  unfold State.endStall
  split
  · rfl
  · split <;> rfl

/-! ## Cells, ports and sending (Chapters 8 and 9) -/

@[simp] theorem State.cellError_views (s : State) (p : PortId) :
    (s.cellError p).views = s.views := rfl

@[simp] theorem State.forwardCommand_views (s : State) (c : Cell) :
    (s.forwardCommand c).views = s.views := by
  unfold State.forwardCommand
  split
  · rfl
  · split
    · rfl
    · split <;> rfl

@[simp] theorem State.receiveUpward_views (s : State) (c : Cell) :
    (s.receiveUpward c).views = s.views := by
  unfold State.receiveUpward
  split
  · split <;> rfl
  · rfl

@[simp] theorem State.takeRollCall_views (s : State) (c : Cell) :
    (s.takeRollCall c).views = s.views := by
  unfold State.takeRollCall
  split
  · unfold State.overlongRollCall
    split <;> rfl
  · split
    · unfold State.passRollCall
      split <;> rfl
    · unfold State.turnRollCall
      split <;> rfl

@[simp] theorem State.portDown_views (s : State) (p : PortId) (midCell : Bool) :
    (s.portDown p midCell).views = s.views := by
  unfold State.portDown
  split <;> simp

@[simp] theorem State.receiveSymbol_views (s : State) (p : PortId) (h : Bool) :
    (s.receiveSymbol p h).views = s.views := by
  unfold State.receiveSymbol
  split <;> rfl

@[simp] theorem State.chooseManagement_views (s : State) (c : Cell) (rest : List Cell) :
    (s.chooseManagement c rest).views = s.views := by
  unfold State.chooseManagement State.payStatus
  split <;> rfl

@[simp] theorem State.chooseVideo_views (s : State) : s.chooseVideo.views = s.views := by
  unfold State.chooseVideo
  split <;> simp [State.chooseOwn, State.chooseForwarded]

end Sys2Proof.Machine

/-! PROOFS. What a step can do to the View Bank Store, said once as `ViewBankStore.Moves`; that each
such move keeps the store sound is then all that the invariant of the banks needs. -/

namespace Sys2Proof.Machine

/-! ## What a step can do to the store -/

/-- The moves of the View Bank Store: nothing; TABLE OPEN, TABLE DATA, TABLE CLOSE and the completion of
its check; a pending change set or cancelled; the pending change taken up at a frame start; RESTART; a
reset (R23, R42, R45, R47, R50, R53, R54, R57, R58). -/
inductive ViewBankStore.Moves (v : ViewBankStore) : ViewBankStore → Prop
  | stays : Moves v v
  | opens (b : BankId) (h : Header) (hh : h.InRange) (hactive : (v.get b).state ≠ .active)
      (hpending : v.pendingView = some (.bank b) → (v.get b).state ≠ .valid) :
      Moves v (v.set b (Bank.openedWith h))
  | loads (b : BankId) (x : Bank) (hopen : (v.get b).state = .opened)
      (hx : x = { v.get b with mesh := x.mesh, zones := x.zones, gains := x.gains }) :
      Moves v (v.set b x)
  | closes (b : BankId) (raster : Nat × Nat) (hopen : (v.get b).state = .opened) :
      Moves v (v.set b { v.get b with state := .checking, checkRaster := some raster })
  | completes (b : BankId) (verdict : CheckVerdict) (record : VerdictRecord)
      (hchecking : (v.get b).state = .checking) :
      Moves v { v.set b ((v.get b).checked verdict) with verdict := record }
  | pends (view : Option View)
      (hvalid : ∀ b, view = some (.bank b) → (v.get b).state = .valid) :
      Moves v { v with pendingView := view }
  | takesUp : Moves v v.takeUp
  | restarts : Moves v v.restarted
  | resets : Moves v ViewBankStore.reset

theorem ViewBankStore.Moves.of_eq {v w : ViewBankStore} (h : w = v) : v.Moves w :=
  h ▸ .stays

/-! ## The commands of Chapter 3 -/

/-- A size taken is within 128..1024 and a multiple of 64 (R41). -/
theorem takeSize_eq (n : Nat) : takeSize n = max 128 (min 1024 n) / 64 * 64 := by
  unfold takeSize takeValue clampNat
  omega

theorem takeHeader_inRange (width height fill : BitVec 16) (label : List Byte) :
    (takeHeader width height fill label).InRange := by
  simp only [Header.InRange, takeHeader, takeSize_eq]
  omega

theorem ownTableOpen_moves (bank : Byte) (width height fill : BitVec 16) (label : List Byte)
    (s : State) : s.views.Moves (ownTableOpen bank width height fill label s).2.views := by
  have hrange := takeHeader_inRange width height fill label
  unfold ownTableOpen
  split
  · exact .stays
  · rename_i b _
    split
    · exact .stays
    · exact .stays
    · split
      · exact .stays
      · rename_i hstate hpending
        exact .opens b _ hrange (by simp [hstate]) (fun h => absurd h hpending)
    · rename_i hstate
      exact .opens b _ hrange (by simp [hstate]) (by simp [hstate])
    · rename_i hstate
      exact .opens b _ hrange (by simp [hstate]) (by simp [hstate])

/-- An open header is that of an OPEN bank (R44 case b). -/
theorem Bank.openHeader_eq_some_iff {b : Bank} {h : Header} :
    b.openHeader = some h ↔ b.state = .opened ∧ b.header = some h := by
  unfold Bank.openHeader
  split <;> simp [*]

/-- Loading a segment changes the three parts of a bank and no more (R45). -/
theorem Bank.load_eq (b : Bank) (h : Header) (part : TablePart) (segment : Nat)
    (bytes : List Byte) :
    let x := (b.load h part segment bytes).1
    x = { b with mesh := x.mesh, zones := x.zones, gains := x.gains } := by
  cases part <;> rfl

theorem ownTableData_moves (used : Byte) (bank part : BitVec 4) (number : BitVec 16)
    (entries : List Byte) (s : State) :
    s.views.Moves (ownTableData used bank part number entries s).2.views := by
  unfold ownTableData
  split
  · rename_i b p _ _
    unfold loadSegment
    split
    · exact .stays
    · rename_i h hh
      split
      · exact .stays
      · split
        · exact .stays
        · exact .loads b _ (Bank.openHeader_eq_some_iff.mp hh).1 (Bank.load_eq ..)
  · exact .stays
  · exact .stays

theorem ownTableClose_moves (bank : Byte) (s : State) :
    s.views.Moves (ownTableClose bank s).2.views := by
  unfold ownTableClose
  split
  · exact .stays
  · split
    · exact .closes _ _ ‹_›
    · exact .stays

theorem ownCommitView_moves (bank : Byte) (s : State) :
    s.views.Moves (ownCommitView bank s).2.views := by
  unfold ownCommitView
  split
  · exact .stays
  · split
    · rename_i hstate
      refine .pends _ ?_
      rintro _ ⟨⟩
      exact hstate
    · exact .pends none (by simp)
    · exact .stays
    · exact .stays
    · exact .stays

theorem ownRawView_moves (s : State) : s.views.Moves (ownRawView s).2.views :=
  .pends (some .raw) (by simp)

/-! ## Commands of the other chapters -/

/-- A SET of an enumerated parameter leaves the store alone when what it stores does (R170). -/
theorem setChoice_views {α : Type} {identifier : Byte} {value : Word} {choice : Nat → Option α}
    {store : α → State} {s : State} (h : ∀ x, (store x).views = s.views) :
    (setChoice identifier value choice store s).2.views = s.views := by
  unfold setChoice
  split
  · rfl
  · exact h _

theorem ownSetDuty_views (segment : Byte) (value : Word) (s : State) :
    (ownSetDuty segment value s).2.views = s.views := by
  unfold ownSetDuty
  split <;> simp

theorem ownDefectAdd_views (row : BitVec 10) (column : BitVec 11) (method : BitVec 2) (s : State) :
    (ownDefectAdd row column method s).2.views = s.views := by
  unfold ownDefectAdd
  split
  · rfl
  · split
    · rfl
    · split
      · rfl
      · split
        · rfl
        · split <;> rfl

theorem ownDefectRemove_views (row : BitVec 10) (column : BitVec 11) (s : State) :
    (ownDefectRemove row column s).2.views = s.views := by
  unfold ownDefectRemove
  split
  · rfl
  · split
    · rfl
    · split <;> rfl

theorem ownDefectClear_views (originFilter : Byte) (s : State) :
    (ownDefectClear originFilter s).2.views = s.views := by
  unfold ownDefectClear
  split
  · rfl
  · split <;> rfl

theorem ownDarkSurvey_views (s : State) : (ownDarkSurvey s).2.views = s.views := by
  unfold ownDarkSurvey
  split
  · simp [State.armSurvey]
  · rfl
  · rfl

theorem ownProbe_views (s : State) : (ownProbe s).2.views = s.views := by
  unfold ownProbe
  split
  · rfl
  · rfl
  · split <;> rfl

theorem decodeAnswer_views (number : Byte) (code : ReplyCode) (s : State) :
    (decodeAnswer number code s).2.views = s.views := by
  unfold decodeAnswer
  split <;> rfl

/-- A numbered command moves the store as its own rule says; those outside Chapter 3 leave it alone. -/
theorem ownerOf_moves {i : Instr} {number : Byte} {owner : State → Answer × State}
    (h : ownerOf i = some (number, owner)) (s : State) : s.views.Moves (owner s).2.views := by
  cases i with
  | tableOpen => cases h; exact ownTableOpen_moves ..
  | tableData => cases h; exact ownTableData_moves ..
  | tableClose => cases h; exact ownTableClose_moves ..
  | commitView => cases h; exact ownCommitView_moves ..
  | rawView => cases h; exact ownRawView_moves ..
  | readIdentity | readStatus | readCounters | readZoneStats | readBankInfo | readTableVerdict
  | readDefectEntries | readParameter | readProbeResult | readTemperature | setSourceWidth
  | setSourceHeight | setBlackLevel | setDarkThreshold | setExposure | setBlurLimit
  | setTriggerStep | setLedCycle | setBrightnessTarget | setTuneBand | setReferenceBeta
  | setTuneHoldoff | setEventMask | reseed | clearFaults | ackReset => cases h; exact .stays
  | setDwellTimeout => cases h; exact .of_eq (State.dwellIfPassed_views _)
  | setDwellInterval => cases h; exact .of_eq (State.raiseIfDue_views _)
  | setParkTimeout => cases h; exact .of_eq (State.parkIfPassed_views _)
  | setParkInterval => cases h; exact .of_eq (State.raiseIfDue_views _)
  | setWakeDistance => cases h; exact .of_eq (State.wakeTest_views _)
  | zeroOdometer => cases h; exact .of_eq (State.wakeTest_views _)
  | setDuty => cases h; exact .of_eq (ownSetDuty_views ..)
  | setAutoRetune | setReportMode | setLedFaultResponse | setLedFaultReport | setThermalReport =>
    cases h; exact .of_eq (setChoice_views fun _ => rfl)
  | defectAdd => cases h; exact .of_eq (ownDefectAdd_views ..)
  | defectRemove => cases h; exact .of_eq (ownDefectRemove_views ..)
  | defectClear => cases h; exact .of_eq (ownDefectClear_views ..)
  | darkSurvey => cases h; exact .of_eq (ownDarkSurvey_views s)
  | tune => cases h; exact .of_eq (State.latch_views ..)
  | probe => cases h; exact .of_eq (ownProbe_views s)
  | snap => cases h; exact .of_eq (State.raiseTrigger_views ..)
  | _ => cases h

/-! ## Consumed commands and command cells -/

/-- A consumed command moves the store as its owner does, or not at all when it is discarded (R167). -/
theorem consume_moves {tag number : Byte} {owner : State → Answer × State}
    (h : ∀ u : State, u.views.Moves (owner u).2.views) (s : State) :
    s.views.Moves (consume tag number owner s).views := by
  unfold consume
  split
  · exact h s.holdReplyPlace
  · exact .stays

theorem State.executeCell_moves (s : State) (c : Cell) :
    s.views.Moves (s.executeCell c).views := by
  unfold State.executeCell
  split
  · exact .restarts
  · split
    · exact consume_moves (ownerOf_moves ‹_›) s
    · exact .stays
  · exact consume_moves (fun u => .of_eq (decodeAnswer_views _ _ u)) s

theorem State.routeCommand_moves (s : State) (c : Cell) :
    s.views.Moves (s.routeCommand c).views := by
  unfold State.routeCommand
  split
  · rw [State.forwardCommand_views]
    exact s.executeCell_moves c
  · split
    · exact s.executeCell_moves c
    · exact .of_eq (s.forwardCommand_views c)

theorem State.receiveCommand_moves (s : State) (c : Cell) :
    s.views.Moves (s.receiveCommand c).views := by
  unfold State.receiveCommand
  split
  · split
    · exact s.routeCommand_moves c
    · exact .stays
  · exact .stays

theorem State.acceptCell_moves (s : State) (p : PortId) (c : Cell) :
    s.views.Moves (s.acceptCell p c).views := by
  unfold State.acceptCell
  split
  · exact .stays
  · split
    · exact s.routeCommand_moves c
    · exact .of_eq (s.takeRollCall_views c)

/-! ## Every command and event -/

/-- What a CHECKING bank is checked with is its own header and check raster (R47). -/
theorem Bank.checkBasis_eq_some_iff {b : Bank} {h : Header} {wc hc : Nat} :
    b.checkBasis = some (h, wc, hc) ↔
      b.state = .checking ∧ b.header = some h ∧ b.checkRaster = some (wc, hc) := by
  unfold Bank.checkBasis
  split
  · split <;> simp [*]
  · simp [*]

/-- A numbered command taken from the queue is consumed by its owner (TABLE 10-1). -/
theorem exec_of_ownerOf {i : Instr} {number : Byte} {owner : State → Answer × State}
    (h : ownerOf i = some (number, owner)) (s : State) :
    ∃ tag, exec i s = .next (consume tag number owner s) := by
  cases i <;> cases h <;> exact ⟨_, rfl⟩

/-- What no owner executes: the events, the command cells, RESTART and the resets. -/
theorem exec_moves_of_ownerOf_none {i : Instr} (ho : ownerOf i = none) (s : State) :
    ∃ t, exec i s = .next t ∧ s.views.Moves t.views := by
  cases i with
  | powerOnReset | lineReset =>
    refine ⟨_, rfl, ?_⟩
    rw [State.afterReset, State.sampled_views]
    exact .resets
  | restart => exact ⟨_, rfl, .restarts⟩
  | commandCell => exact ⟨_, rfl, s.receiveCommand_moves _⟩
  | cellError p =>
    refine ⟨_, rfl, ?_⟩
    split
    · split
      · exact .stays
      · exact s.acceptCell_moves p _
    · exact .stays
  | tableCheckCompletion b =>
    refine ⟨_, rfl, ?_⟩
    split
    · exact .stays
    · rename_i hbasis
      rw [State.completeCheck, State.latch_views]
      exact .completes b _ _ (Bank.checkBasis_eq_some_iff.mp hbasis).1
  | warpFrameStart =>
    refine ⟨_, rfl, ?_⟩
    split
    · exact .stays
    · rw [State.startFrame, State.latch_views]
      exact .takesUp
  | rollCall =>
    refine ⟨_, rfl, .of_eq ?_⟩
    split
    · split <;> simp
    · rfl
  | upwardCellReceipt => exact ⟨_, rfl, .of_eq (s.receiveUpward_views _)⟩
  | hold | go => exact ⟨_, rfl, .of_eq (s.receiveSymbol_views _ _)⟩
  | portUp | line | odometerCount | dwellTimer | parkTimer | timeTrigger | exposureEnd
  | sensorTimeout | readoutLimit | senseWindowClose | overcurrent | probeCompletion =>
    refine ⟨_, rfl, .of_eq ?_⟩
    split <;> simp
  | portLockLoss | portSymbolTimeout => exact ⟨_, rfl, .of_eq (s.portDown_views _ _)⟩
  | tetherArbiterChoice =>
    refine ⟨_, rfl, .of_eq ?_⟩
    split
    · split <;> simp
    · rfl
  | chainOutboundSend =>
    refine ⟨_, rfl, .of_eq ?_⟩
    split
    · split <;> rfl
    · rfl
  | frameBegin => exact ⟨_, rfl, .of_eq (by simp)⟩
  | frameEnd => exact ⟨_, rfl, .of_eq s.endFrame_views⟩
  | itemProduction =>
    refine ⟨_, rfl, .of_eq ?_⟩
    split
    · rfl
    · split
      · rfl
      · split <;> simp
  | warpFrameEnd =>
    refine ⟨_, rfl, .of_eq ?_⟩
    split
    · rfl
    · split
      · split <;> simp
      all_goals rfl
  | odoGlitch | speedWindow => exact ⟨_, rfl, .stays⟩
  | thermalSample => exact ⟨_, rfl, .of_eq (by simp)⟩
  | _ => cases ho

/-- A step on any command or event answers a next state, whose store is a move away. -/
theorem exec_moves (i : Instr) (s : State) :
    ∃ t, exec i s = .next t ∧ s.views.Moves t.views := by
  cases ho : ownerOf i with
  | none => exact exec_moves_of_ownerOf_none ho s
  | some owned =>
    obtain ⟨tag, hexec⟩ := exec_of_ownerOf ho s
    exact ⟨_, hexec, consume_moves (ownerOf_moves ho) s⟩

/-! ## Every move keeps the store sound (R38, R39, R40, R47) -/

/-- `State.BanksSound` by bank number, so that a move is judged at the bank it touches. -/
structure ViewBankStore.Sound (v : ViewBankStore) : Prop where
  banks : ∀ b, (v.get b).Sound
  oneActive : ∀ b c, (v.get b).state = .active → (v.get c).state = .active → b = c
  pendingValid : ∀ b, v.pendingView = some (.bank b) → (v.get b).state = .valid

theorem State.banksSound_iff (s : State) : s.BanksSound ↔ s.views.Sound := by
  constructor
  · rintro ⟨h0, h1, hone, hpending⟩
    refine ⟨fun b => ?_, fun b c hb hc => ?_, hpending⟩
    · cases b
      exacts [h0, h1]
    · cases b <;> cases c
      exacts [rfl, absurd ⟨hb, hc⟩ hone, absurd ⟨hc, hb⟩ hone, rfl]
  · rintro ⟨hbanks, hone, hpending⟩
    refine ⟨hbanks .bank0, hbanks .bank1, ?_, hpending⟩
    rintro ⟨h0, h1⟩
    cases hone .bank0 .bank1 h0 h1

theorem Bank.emptied_sound : Bank.emptied.Sound := by
  simp [Bank.Sound, Bank.emptied]

theorem Bank.openedWith_sound {h : Header} (hh : h.InRange) : (Bank.openedWith h).Sound := by
  simp [Bank.Sound, Bank.openedWith, Bank.emptied, hh]

/-- A sound bank keeps sound as its parts change. -/
theorem Bank.Sound.load {b x : Bank} (hb : b.Sound)
    (hx : x = { b with mesh := x.mesh, zones := x.zones, gains := x.gains }) : x.Sound := by
  rw [hx]
  exact hb

/-- A bank that is neither EMPTY nor CHECKING stays sound as it takes another such state. -/
theorem Bank.Sound.withState {b : Bank} {state : BankState} (hb : b.Sound)
    (hempty : b.state ≠ .empty) (hchecking : b.state ≠ .checking)
    (hempty' : state ≠ .empty) (hchecking' : state ≠ .checking) :
    ({ b with state } : Bank).Sound := by
  obtain ⟨hheader, hrange, hraster⟩ := hb
  exact ⟨by simp [hempty', ← hheader, hempty], hrange, by simp [hchecking', ← hraster, hchecking]⟩

theorem Bank.Sound.close {b : Bank} (hb : b.Sound) (hopen : b.state = .opened)
    (raster : Nat × Nat) :
    ({ b with state := .checking, checkRaster := some raster } : Bank).Sound := by
  obtain ⟨hheader, hrange, -⟩ := hb
  exact ⟨by simp [← hheader, hopen], hrange, by simp⟩

theorem Bank.Sound.checked {b : Bank} (hb : b.Sound) (hchecking : b.state = .checking)
    (verdict : CheckVerdict) : (b.checked verdict).Sound := by
  obtain ⟨hheader, hrange, -⟩ := hb
  unfold Bank.checked
  split
  · exact ⟨by simp [← hheader, hchecking], hrange, by simp⟩
  · exact Bank.emptied_sound

theorem Bank.Sound.restarted {b : Bank} (hb : b.Sound) : b.restarted.Sound := by
  unfold Bank.restarted
  split
  exacts [Bank.emptied_sound, hb]

theorem Bank.Sound.retired {b : Bank} (hb : b.Sound) : b.retired.Sound := by
  unfold Bank.retired
  split
  · exact hb.withState (by simp [*]) (by simp [*]) (by simp) (by simp)
  · exact hb

namespace ViewBankStore.Sound

variable {v : ViewBankStore}

/-- Replacing a bank by a sound one keeps the store sound when that bank neither becomes ACTIVE nor
stops being the target of a pending commit. -/
theorem set (hv : v.Sound) {b : BankId} {x : Bank} (hx : x.Sound) (hactive : x.state ≠ .active)
    (hpending : v.pendingView ≠ some (.bank b)) : (v.set b x).Sound := by
  obtain ⟨hbanks, hone, hvalid⟩ := hv
  refine ⟨fun c => ?_, fun c d hc hd => ?_, fun c hc => ?_⟩
  · rw [ViewBankStore.get_set]
    split
    exacts [hx, hbanks c]
  · rw [ViewBankStore.get_set] at hc hd
    split at hc
    · exact absurd hc hactive
    · split at hd
      · exact absurd hd hactive
      · exact hone c d hc hd
  · rw [ViewBankStore.pendingView_set] at hc
    rw [ViewBankStore.get_set, if_neg (by rintro rfl; exact hpending hc)]
    exact hvalid c hc

/-- A bank that is not VALID is not the target of a pending commit (R40). -/
theorem pending_ne (hv : v.Sound) {b : BankId} (hb : (v.get b).state ≠ .valid) :
    v.pendingView ≠ some (.bank b) :=
  fun h => hb (hv.pendingValid b h)

/-- With nothing pending a store is sound when its banks are and no bank was newly made ACTIVE. -/
theorem of_no_pending {w : ViewBankStore} (hbanks : ∀ b, (w.get b).Sound)
    (hone : ∀ b c, (w.get b).state = .active → (w.get c).state = .active → b = c)
    (hpending : w.pendingView = none) : w.Sound :=
  ⟨hbanks, hone, by simp [hpending]⟩

theorem takeUp (hv : v.Sound) : v.takeUp.Sound := by
  have hretired (k : BankId) : (v.retired.get k).Sound := by
    cases k
    exacts [(hv.banks .bank0).retired, (hv.banks .bank1).retired]
  cases hp : v.pendingView with
  | none => rwa [takeUp_of_none hp]
  | some view =>
    cases view with
    | raw =>
      refine of_no_pending (fun k => ?_) (fun b c hb _ => ?_) (by rw [takeUp_of_raw hp])
      · rw [get_takeUp_of_raw hp]
        exact hretired k
      · rw [get_takeUp_of_raw hp] at hb
        exact absurd hb (get_retired_not_active b)
    | bank b =>
      have hvalid : (v.get b).state = .valid := hv.pendingValid b hp
      have htarget {c : BankId} (hc : (v.takeUp.get c).state = .active) : c = b := by
        by_contra hne
        rw [get_takeUp_of_bank hp, if_neg hne] at hc
        exact get_retired_not_active c hc
      refine of_no_pending (fun k => ?_) (fun c d hc hd => (htarget hc).trans (htarget hd).symm)
        (by rw [takeUp_of_bank hp])
      rw [get_takeUp_of_bank hp]
      split
      · subst k
        exact (hv.banks b).withState (by simp [hvalid]) (by simp [hvalid]) (by simp) (by simp)
      · exact hretired k

theorem restarted (hv : v.Sound) : v.restarted.Sound := by
  have hactive {b : BankId} (hb : (v.restarted.get b).state = .active) :
      (v.get b).state = .active := by
    rw [get_restarted] at hb
    split at hb
    · cases hb
    · exact hb
  refine of_no_pending (fun b => ?_)
    (fun b c hb hc => hv.oneActive b c (hactive hb) (hactive hc)) rfl
  cases b
  exacts [(hv.banks .bank0).restarted, (hv.banks .bank1).restarted]

theorem reset : ViewBankStore.reset.Sound := by
  refine of_no_pending (fun b => ?_) (fun b c hb => ?_) rfl
  · cases b <;> exact Bank.emptied_sound
  · cases b <;> cases hb

/-- Every move keeps the store sound. -/
theorem moves {w : ViewBankStore} (hv : v.Sound) (hmove : v.Moves w) : w.Sound := by
  cases hmove with
  | stays => exact hv
  | opens b h hh hactive hpending =>
    exact hv.set (Bank.openedWith_sound hh) (by simp [Bank.openedWith])
      (fun hp => hpending hp (hv.pendingValid b hp))
  | loads b x hopen hx =>
    have hstate : x.state = .opened := by rw [hx]; exact hopen
    exact hv.set ((hv.banks b).load hx) (by simp [hstate]) (hv.pending_ne (by simp [hopen]))
  | closes b raster hopen =>
    exact hv.set ((hv.banks b).close hopen raster) (by simp) (hv.pending_ne (by simp [hopen]))
  | completes b verdict record hchecking =>
    have hactive : ((v.get b).checked verdict).state ≠ .active := by
      unfold Bank.checked
      split <;> simp [Bank.emptied]
    have hset : (v.set b ((v.get b).checked verdict)).Sound :=
      hv.set ((hv.banks b).checked hchecking verdict) hactive (hv.pending_ne (by simp [hchecking]))
    exact ⟨hset.banks, hset.oneActive, hset.pendingValid⟩
  | pends view hvalid =>
    exact ⟨hv.banks, hv.oneActive, hvalid⟩
  | takesUp => exact hv.takeUp
  | restarts => exact hv.restarted
  | resets => exact reset

end ViewBankStore.Sound

/-- Settles O55: a step takes the store along one of its moves, and every move keeps it sound. -/
theorem stepsKeepTheBanks : Obligations.StepsKeepTheBanks := by
  intro s t hsound hstep
  rw [State.banksSound_iff] at hsound ⊢
  cases hp : s.pending with
  | nil =>
    simp only [step, hp, Host.Outcome.next.injEq] at hstep
    subst hstep
    exact hsound
  | cons c rest =>
    obtain ⟨u, hexec, hmove⟩ := exec_moves c { s with pending := rest }
    simp only [step, hp, hexec, Host.Outcome.next.injEq] at hstep
    subst hstep
    exact hsound.moves hmove

end Sys2Proof.Machine

/-! PROOFS. The commands of Chapter 3 with a place free for their REPLY: which are turned away, and what
the others make of the store. -/

namespace Sys2Proof.Machine

/-! ## Consumed commands that touch the store alone (R167) -/

section
variable {tag number : Byte} {owner : State → Answer × State} {s : State} {a : Answer}

/-- A command that only answers leaves the REPLY and nothing else. -/
theorem consume_of_unchanged (h : s.PlaceFree)
    (ho : owner s.holdReplyPlace = (a, s.holdReplyPlace)) :
    consume tag number owner s = s.placeReply tag number a := by
  rw [consume_of_placeFree h, ho]
  rfl

/-- A command that sets the store leaves that and the REPLY. -/
theorem consume_of_setViews {v : ViewBankStore} (h : s.PlaceFree)
    (ho : owner s.holdReplyPlace = (a, s.holdReplyPlace.setViews v)) :
    consume tag number owner s = (s.setViews v).placeReply tag number a := by
  rw [consume_of_placeFree h, ho]
  rfl

end

/-! ## Bank numbers and part codes (R41, R44, R47, R53) -/

theorem bankOf_of_two_le {n : Nat} (h : 2 ≤ n) : bankOf n = none := by
  obtain ⟨k, rfl⟩ := Nat.exists_eq_add_of_le' h
  rfl

/-- The numbers 0 and 1 name the banks. -/
theorem bankOf_toNat {w : Nat} {bank : BitVec (w + 1)} {b : BankId}
    (h : (bank = 0 ∧ b = .bank0) ∨ (bank = 1 ∧ b = .bank1)) : bankOf bank.toNat = some b := by
  rcases h with ⟨rfl, rfl⟩ | ⟨rfl, rfl⟩
  · simp [bankOf]
  · simp [bankOf]

theorem partOf_eq_none {n : Nat} (h : n = 0 ∨ 4 ≤ n) : partOf n = none := by
  rcases h with rfl | h
  · rfl
  · obtain ⟨k, rfl⟩ := Nat.exists_eq_add_of_le' h
    rfl

/-- The codes 1, 2 and 3 name the parts. -/
theorem partOf_toNat {part : BitVec 4} {p : TablePart}
    (h : (part = 1 ∧ p = .mesh) ∨ (part = 2 ∧ p = .zone) ∨ (part = 3 ∧ p = .gain)) :
    partOf part.toNat = some p := by
  rcases h with ⟨rfl, rfl⟩ | ⟨rfl, rfl⟩ | ⟨rfl, rfl⟩ <;> rfl

/-! ## TABLE OPEN (R41, R42) -/

theorem exec_tableOpen (tag bank : Byte) (width height fill : BitVec 16) (label : List Byte)
    (s : State) :
    exec (.tableOpen tag bank width height fill label) s
      = .next (consume tag 3 (ownTableOpen bank width height fill label) s) := rfl

section
variable {bank : Byte} {b : BankId} {width height fill : BitVec 16} {label : List Byte} {s : State}

theorem ownTableOpen_of_no_bank (hb : bankOf bank.toNat = none) :
    ownTableOpen bank width height fill label s = (.bare .badValue, s) := by
  simp only [ownTableOpen, hb]

theorem ownTableOpen_of_active (hb : bankOf bank.toNat = some b)
    (hs : (s.views.get b).state = .active) :
    ownTableOpen bank width height fill label s = (.bare .refused, s) := by
  simp only [ownTableOpen, hb, hs]

theorem ownTableOpen_of_checking (hb : bankOf bank.toNat = some b)
    (hs : (s.views.get b).state = .checking) :
    ownTableOpen bank width height fill label s = (.bare .busy, s) := by
  simp only [ownTableOpen, hb, hs]

theorem ownTableOpen_of_committed (hb : bankOf bank.toNat = some b)
    (hs : (s.views.get b).state = .valid) (hp : s.views.pendingView = some (.bank b)) :
    ownTableOpen bank width height fill label s = (.bare .refused, s) := by
  simp only [ownTableOpen, hb, hs, hp, if_true]

theorem ownTableOpen_of_free (hb : bankOf bank.toNat = some b)
    (hs : (s.views.get b).state = .empty ∨ (s.views.get b).state = .opened
      ∨ ((s.views.get b).state = .valid ∧ s.views.pendingView ≠ some (.bank b))) :
    ownTableOpen bank width height fill label s = takeOpen b width height fill label s := by
  rcases hs with hs | hs | ⟨hs, hp⟩
  · simp only [ownTableOpen, hb, hs]
  · simp only [ownTableOpen, hb, hs]
  · simp only [ownTableOpen, hb, hs, hp, if_false]

end

/-- The header TABLE OPEN takes, by its formulas (R41). -/
theorem takeHeader_eq (width height fill : BitVec 16) (label : List Byte) :
    takeHeader width height fill label =
      { wo := max 128 (min 1024 width.toNat) / 64 * 64
        ho := max 128 (min 1024 height.toNat) / 64 * 64
        fill := min 1023 fill.toNat, label } := by
  rw [takeHeader, takeSize_eq, takeSize_eq, Nat.min_comm fill.toNat]

/-- The answer of a TABLE OPEN that is taken, by the header's three values (TABLE 8-8). -/
theorem openAnswer_eq (width height fill : BitVec 16) (h : Header) :
    openAnswer width height fill h =
      { code := if h.wo = width.toNat ∧ h.ho = height.toNat ∧ h.fill = fill.toNat then .done
          else .clamped
        content := bigEndian 2 h.wo ++ bigEndian 2 h.ho ++ bigEndian 2 h.fill
          ++ bigEndian 2 (((h.wo / 16 + 1) * (h.ho / 16 + 1) + 14) / 15)
          ++ [BitVec.ofNat 8 ((h.wo / 16 * (h.ho / 16) + 119) / 120),
            BitVec.ofNat 8 (((h.wo / 64 + 1) * (h.ho / 64 + 1) + 29) / 30)] } := by
  simp only [openAnswer, headerUnchanged, Bool.and_eq_true, decide_eq_true_eq, and_assoc]
  rfl

/-- Settles O14: the state of the bank and the pending change decide whether the header is taken. -/
theorem tableOpenOutcomes : Obligations.TableOpenOutcomes := by
  intro s tag bank width height fill label hfree wo ho f mesh zone gain turnedAway
  rw [exec_tableOpen]
  refine ⟨fun hbank => ?_, fun b hbank => ?_⟩
  · exact congrArg _ (consume_of_unchanged hfree
      (ownTableOpen_of_no_bank (bankOf_of_two_le hbank)))
  have hb : bankOf bank.toNat = some b := bankOf_toNat hbank
  refine ⟨fun hs => ?_, fun hs => ?_, fun hs hp => ?_, fun hs => ?_⟩
  · exact congrArg _ (consume_of_unchanged hfree (ownTableOpen_of_active hb hs))
  · exact congrArg _ (consume_of_unchanged hfree (ownTableOpen_of_checking hb hs))
  · exact congrArg _ (consume_of_unchanged hfree (ownTableOpen_of_committed hb hs hp))
  · refine congrArg _ ((consume_of_setViews hfree (ownTableOpen_of_free hb hs)).trans ?_)
    rw [openAnswer_eq, takeHeader_eq]
    rfl

/-! ## TABLE DATA (R44) -/

theorem exec_tableData (tag used : Byte) (bank part : BitVec 4) (number : BitVec 16)
    (entries : List Byte) (s : State) :
    exec (.tableData tag used bank part number entries) s
      = .next (consume tag 4 (ownTableData used bank part number entries) s) := rfl

section
variable {used : Byte} {bank part : BitVec 4} {number : BitVec 16} {entries : List Byte}
  {s : State} {b : BankId} {p : TablePart}

theorem ownTableData_of_no_bank (h : bankOf bank.toNat = none) :
    ownTableData used bank part number entries s = (.bare .badValue, s) := by
  simp only [ownTableData, h]

theorem ownTableData_of_no_part (h : partOf part.toNat = none) :
    ownTableData used bank part number entries s = (.bare .badValue, s) := by
  cases hb : bankOf bank.toNat <;> simp only [ownTableData, hb, h]

theorem ownTableData_of_named (hb : bankOf bank.toNat = some b)
    (hp : partOf part.toNat = some p) :
    ownTableData used bank part number entries s = loadSegment b p used number.toNat entries s := by
  simp only [ownTableData, hb, hp]

end

section
variable {used : Byte} {number : Nat} {entries : List Byte} {s : State} {b : BankId}
  {p : TablePart} {h : Header}

theorem loadSegment_of_not_opened (hs : (s.views.get b).state ≠ .opened) :
    loadSegment b p used number entries s = (.bare .refused, s) := by
  simp only [loadSegment, Bank.openHeader, hs, if_false]

theorem loadSegment_of_no_segment (hh : (s.views.get b).openHeader = some h)
    (hn : h.segments p ≤ number) :
    loadSegment b p used number entries s = (.bare .badValue, s) := by
  simp only [loadSegment, hh, if_pos hn]

theorem loadSegment_of_short (hh : (s.views.get b).openHeader = some h)
    (hn : number < h.segments p) (hu : used.toNat < 64) :
    loadSegment b p used number entries s = (.bare .badValue, s) := by
  simp only [loadSegment, hh, if_neg (Nat.not_le.mpr hn), if_pos hu]

theorem loadSegment_of_whole (hh : (s.views.get b).openHeader = some h)
    (hn : number < h.segments p) (hu : 64 ≤ used.toNat) :
    loadSegment b p used number entries s =
      (dataAnswer ((s.views.get b).load h p number entries).2,
        s.setBank b ((s.views.get b).load h p number entries).1) := by
  simp only [loadSegment, hh, if_neg (Nat.not_le.mpr hn), if_neg (Nat.not_lt.mpr hu)]

end

/-- Settles O15: the bank and part codes, the OPEN state, the segment number and the used length are
judged one after the other. -/
theorem tableDataIsJudgedInOrder : Obligations.TableDataIsJudgedInOrder := by
  intro s tag used bank part number entries hfree turnedAway
  rw [exec_tableData]
  refine ⟨?unnamed, fun b p hbank hpart => ?named⟩
  case unnamed =>
    rintro (hbank | hpart)
    · exact congrArg _ (consume_of_unchanged hfree
        (ownTableData_of_no_bank (bankOf_of_two_le hbank)))
    · exact congrArg _ (consume_of_unchanged hfree
        (ownTableData_of_no_part (partOf_eq_none hpart)))
  case named =>
    have howner (u : State) :
        ownTableData used bank part number entries u = loadSegment b p used number.toNat entries u :=
      ownTableData_of_named (bankOf_toNat hbank) (partOf_toNat hpart)
    refine ⟨fun hs => ?_, fun h hs hh => ?_⟩
    · exact congrArg _ (consume_of_unchanged hfree
        ((howner _).trans (loadSegment_of_not_opened hs)))
    have hopen : (s.holdReplyPlace.views.get b).openHeader = some h :=
      Bank.openHeader_eq_some_iff.mpr ⟨hs, hh⟩
    refine ⟨fun hn => ?_, fun hn hu => ?_, fun hn hu => ?_⟩
    · exact congrArg _ (consume_of_unchanged hfree
        ((howner _).trans (loadSegment_of_no_segment hopen hn)))
    · exact congrArg _ (consume_of_unchanged hfree
        ((howner _).trans (loadSegment_of_short hopen hn hu)))
    · exact congrArg _ (consume_of_setViews hfree
        ((howner _).trans (loadSegment_of_whole hopen hn hu)))

/-! ## COMMIT VIEW and RAW VIEW (R53, R54) -/

theorem exec_commitView (tag bank : Byte) (s : State) :
    exec (.commitView tag bank) s = .next (consume tag 6 (ownCommitView bank) s) := rfl

section
variable {bank : Byte} {b : BankId} {s : State}

theorem ownCommitView_of_no_bank (hb : bankOf bank.toNat = none) :
    ownCommitView bank s = (.bare .badValue, s) := by
  simp only [ownCommitView, hb]

theorem ownCommitView_of_valid (hb : bankOf bank.toNat = some b)
    (hs : (s.views.get b).state = .valid) :
    ownCommitView bank s = (.bare .accepted, s.setPendingView (some (.bank b))) := by
  simp only [ownCommitView, hb, hs]

theorem ownCommitView_of_active (hb : bankOf bank.toNat = some b)
    (hs : (s.views.get b).state = .active) :
    ownCommitView bank s = (.bare .done, s.setPendingView none) := by
  simp only [ownCommitView, hb, hs]

theorem ownCommitView_of_unready (hb : bankOf bank.toNat = some b)
    (hs : (s.views.get b).state = .empty ∨ (s.views.get b).state = .opened
      ∨ (s.views.get b).state = .checking) :
    ownCommitView bank s = (.bare .refused, s) := by
  rcases hs with hs | hs | hs <;> simp only [ownCommitView, hb, hs]

end

/-- Settles O18: a VALID bank is made the pending view, an ACTIVE one cancels what is pending. -/
theorem viewChangesWait : Obligations.ViewChangesWait := by
  intro s tag bank hfree pendingSet
  rw [exec_commitView]
  refine ⟨fun hbank => ?_, fun b hbank => ?_, ?_⟩
  · exact congrArg _ (consume_of_unchanged hfree
      (ownCommitView_of_no_bank (bankOf_of_two_le hbank)))
  · have hb : bankOf bank.toNat = some b := bankOf_toNat hbank
    refine ⟨fun hs => ?_, fun hs => ?_, fun hs => ?_⟩
    · exact congrArg _ (consume_of_setViews hfree (ownCommitView_of_valid hb hs))
    · exact congrArg _ (consume_of_setViews hfree (ownCommitView_of_active hb hs))
    · exact congrArg _ (consume_of_unchanged hfree (ownCommitView_of_unready hb hs))
  · have hexec : exec (.rawView tag) s = .next (consume tag 7 ownRawView s) := rfl
    exact hexec.trans (congrArg _ (consume_of_setViews hfree rfl))

end Sys2Proof.Machine

/-! PROOFS. TABLE CLOSE and the completion of its check: the verdict names the first missing segment,
else the first node outside the check raster. -/

namespace Sys2Proof.Machine

/-! ## TABLE CLOSE (R47) -/

theorem exec_tableClose (tag bank : Byte) (s : State) :
    exec (.tableClose tag bank) s = .next (consume tag 5 (ownTableClose bank) s) := rfl

section
variable {bank : Byte} {b : BankId} {s : State}

theorem ownTableClose_of_no_bank (hb : bankOf bank.toNat = none) :
    ownTableClose bank s = (.bare .badValue, s) := by
  simp only [ownTableClose, hb]

theorem ownTableClose_of_not_opened (hb : bankOf bank.toNat = some b)
    (hs : (s.views.get b).state ≠ .opened) :
    ownTableClose bank s = (.bare .refused, s) := by
  simp only [ownTableClose, hb, if_neg hs]

theorem ownTableClose_of_opened (hb : bankOf bank.toNat = some b)
    (hs : (s.views.get b).state = .opened) :
    ownTableClose bank s = (.bare .accepted, s.setBank b { s.views.get b with
      state := .checking
      checkRaster := some (s.params.sourceWidth, s.params.sourceHeight) }) := by
  simp only [ownTableClose, hb, if_pos hs]

end

/-! ## Missing segments (R48) -/

theorem firstMissing_eq_some_iff {received : List Nat} {count k : Nat} :
    firstMissing received count = some k ↔
      k < count ∧ k ∉ received ∧ ∀ j, j < k → j ∈ received := by
  simp only [firstMissing, List.find?_range_eq_some, List.mem_range, List.contains_iff_mem,
    Bool.not_eq_true', ← Bool.not_eq_true, not_not]
  tauto

theorem firstMissing_eq_none_iff {received : List Nat} {count : Nat} :
    firstMissing received count = none ↔ ∀ k, k < count → k ∈ received := by
  simp [firstMissing]

/-- Segment `k` is the first one missing of a part (R48). -/
def Bank.FirstMissing (b : Bank) (h : Header) (part : TablePart) (k : Nat) : Prop :=
  k < h.segments part ∧ k ∉ b.received part ∧ ∀ j, j < k → j ∈ b.received part

/-- No segment of a part is missing (R48). -/
def Bank.Whole (b : Bank) (h : Header) (part : TablePart) : Prop :=
  ∀ k, k < h.segments part → k ∈ b.received part

section
variable {b : Bank} {h : Header}

/-- The first missing segment of a part, if any. -/
def Bank.missingIn (b : Bank) (h : Header) (part : TablePart) : Option Nat :=
  firstMissing (b.received part) (h.segments part)

theorem Bank.missingIn_eq_some_iff {part : TablePart} {k : Nat} :
    b.missingIn h part = some k ↔ b.FirstMissing h part k :=
  firstMissing_eq_some_iff

theorem Bank.missingIn_eq_none_iff {part : TablePart} :
    b.missingIn h part = none ↔ b.Whole h part :=
  firstMissing_eq_none_iff

/-- The parts are searched in the order MESH, ZONE, GAIN (R48). -/
theorem Bank.missing_eq (b : Bank) (h : Header) :
    b.missing h =
      ((b.missingIn h .mesh).map (Prod.mk .mesh)).or
        (((b.missingIn h .zone).map (Prod.mk .zone)).or
          ((b.missingIn h .gain).map (Prod.mk .gain))) := by
  unfold Bank.missing Bank.missingIn
  cases firstMissing (b.received .mesh) (h.segments .mesh) with
  | some => rfl
  | none =>
    cases firstMissing (b.received .zone) (h.segments .zone) with
    | some => rfl
    | none => cases firstMissing (b.received .gain) (h.segments .gain) <;> rfl

theorem Bank.missing_eq_mesh_iff {k : Nat} :
    b.missing h = some (.mesh, k) ↔ b.FirstMissing h .mesh k := by
  simp [Bank.missing_eq, Option.or_eq_some_iff, Bank.missingIn_eq_some_iff]

theorem Bank.missing_eq_zone_iff {k : Nat} :
    b.missing h = some (.zone, k) ↔ b.Whole h .mesh ∧ b.FirstMissing h .zone k := by
  simp [Bank.missing_eq, Option.or_eq_some_iff, Bank.missingIn_eq_some_iff,
    Bank.missingIn_eq_none_iff]

theorem Bank.missing_eq_gain_iff {k : Nat} :
    b.missing h = some (.gain, k) ↔
      b.Whole h .mesh ∧ b.Whole h .zone ∧ b.FirstMissing h .gain k := by
  simp [Bank.missing_eq, Option.or_eq_some_iff, Bank.missingIn_eq_some_iff,
    Bank.missingIn_eq_none_iff]

theorem Bank.missing_eq_none_iff :
    b.missing h = none ↔ b.Whole h .mesh ∧ b.Whole h .zone ∧ b.Whole h .gain := by
  simp [Bank.missing_eq, Bank.missingIn_eq_none_iff]

/-! ## Nodes outside the check raster (R49) -/

/-- Node `i` is tested and lies outside a check raster (R49). -/
def Bank.Outside (b : Bank) (wc hc i : Nat) : Prop :=
  (b.node i).isVoid = false ∧ ((wc - 1) * 16 < (b.node i).sx ∨ (hc - 1) * 16 < (b.node i).sy)

theorem Bank.nodeWithin_iff {wc hc i : Nat} :
    nodeWithin wc hc (b.node i) = true ↔ ¬b.Outside wc hc i := by
  simp only [nodeWithin, Bank.Outside, Bool.or_eq_true, Bool.and_eq_true, decide_eq_true_eq,
    not_and_or, not_or, not_lt, Bool.not_eq_false]

/-- The first node outside the check raster, if any. -/
def Bank.firstOutside (b : Bank) (h : Header) (wc hc : Nat) : Option Nat :=
  (List.range (h.entries .mesh)).find? fun k => !nodeWithin wc hc (b.node k)

variable {wc hc : Nat}

theorem Bank.firstOutside_eq_some_iff {n : Nat} :
    b.firstOutside h wc hc = some n ↔
      n < h.entries .mesh ∧ b.Outside wc hc n ∧ ∀ m, m < n → ¬b.Outside wc hc m := by
  simp only [Bank.firstOutside, List.find?_range_eq_some, List.mem_range, Bool.not_eq_true',
    ← Bool.not_eq_true, not_not, Bank.nodeWithin_iff]
  tauto

theorem Bank.firstOutside_eq_none_iff :
    b.firstOutside h wc hc = none ↔ ∀ n, n < h.entries .mesh → ¬b.Outside wc hc n := by
  simp [Bank.firstOutside, Bank.nodeWithin_iff]

/-! ## The verdict (R48, R49) -/

/-- A missing segment comes before a node outside, and either before PASSED. -/
theorem Bank.check_cases (b : Bank) (h : Header) (wc hc : Nat) :
    (∃ part k, b.missing h = some (part, k) ∧ b.check h wc hc = .incomplete part k)
      ∨ (∃ n, b.missing h = none ∧ b.firstOutside h wc hc = some n
        ∧ b.check h wc hc = .nodeOutside n)
      ∨ (b.missing h = none ∧ b.firstOutside h wc hc = none ∧ b.check h wc hc = .passed) := by
  unfold Bank.check Bank.firstOutside
  split
  · rename_i hm
    exact .inl ⟨_, _, hm, rfl⟩
  · rename_i hm
    split
    · rename_i ho
      exact .inr (.inl ⟨_, hm, ho, rfl⟩)
    · rename_i ho
      exact .inr (.inr ⟨hm, ho, rfl⟩)

theorem Bank.check_eq_incomplete_iff {part : TablePart} {k : Nat} :
    b.check h wc hc = .incomplete part k ↔ b.missing h = some (part, k) := by
  rcases b.check_cases h wc hc with ⟨_, _, hm, hv⟩ | ⟨_, hm, _, hv⟩ | ⟨hm, _, hv⟩ <;>
    simp [hm, hv]

theorem Bank.check_eq_nodeOutside_iff {n : Nat} :
    b.check h wc hc = .nodeOutside n ↔
      b.missing h = none ∧ b.firstOutside h wc hc = some n := by
  rcases b.check_cases h wc hc with ⟨_, _, hm, hv⟩ | ⟨_, hm, ho, hv⟩ | ⟨hm, ho, hv⟩ <;>
    simp [*]

theorem Bank.check_eq_passed_iff :
    b.check h wc hc = .passed ↔ b.missing h = none ∧ b.firstOutside h wc hc = none := by
  rcases b.check_cases h wc hc with ⟨_, _, hm, hv⟩ | ⟨_, hm, ho, hv⟩ | ⟨hm, ho, hv⟩ <;>
    simp [*]

end

/-! ## The completion of a check (R50, R52) -/

theorem exec_tableCheckCompletion {s : State} {b : BankId} {h : Header} {wc hc : Nat}
    (hs : (s.views.get b).state = .checking) (hh : (s.views.get b).header = some h)
    (hr : (s.views.get b).checkRaster = some (wc, hc)) :
    exec (.tableCheckCompletion b) s = .next (s.completeCheck b h wc hc) := by
  have hexec : exec (.tableCheckCompletion b) s = execTableCheckCompletion b s := rfl
  have hbasis : (s.views.get b).checkBasis = some (h, wc, hc) :=
    Bank.checkBasis_eq_some_iff.mpr ⟨hs, hh, hr⟩
  rw [hexec, execTableCheckCompletion, hbasis]

/-- A completed check changes the store and, by its event, the Link Unit. -/
theorem State.completeCheck_frame (s : State) (b : BankId) (h : Header) (wc hc : Nat) :
    s.completeCheck b h wc hc = { s with
      views := (s.completeCheck b h wc hc).views, link := (s.completeCheck b h wc hc).link } := by
  rw [State.completeCheck, State.latch_eq_setLink]
  rfl

theorem State.completeCheck_views (s : State) (b : BankId) (h : Header) (wc hc : Nat) :
    (s.completeCheck b h wc hc).views =
      { s.views.set b ((s.views.get b).checked ((s.views.get b).check h wc hc)) with
        verdict := { bank := some b, verdict := (s.views.get b).check h wc hc
                     raster := some (wc, hc) } } :=
  State.latch_views ..

theorem State.completeCheck_kept (s : State) (b : BankId) (h : Header) (wc hc : Nat) :
    s.link.KeptBy (s.completeCheck b h wc hc).link :=
  State.latch_kept ..

theorem State.completeCheck_reported (s : State) (b : BankId) (h : Header) (wc hc : Nat) :
    (s.completeCheck b h wc hc).Reported .tableVerdict :=
  State.latch_reported _ (List.mem_singleton_self _)

/-- Settles O17: TABLE CLOSE goes by the state of the bank; the verdict of the completion is the bank's
own check, whose cases exclude one another. -/
theorem checksBeginAndComplete : Obligations.ChecksBeginAndComplete := by
  refine ⟨?close, ?complete⟩
  case close =>
    intro s tag bank hfree turnedAway
    rw [exec_tableClose]
    refine ⟨fun hbank => ?_, fun b hbank => ⟨fun hs => ?_, fun hs => ?_⟩⟩
    · exact congrArg _ (consume_of_unchanged hfree
        (ownTableClose_of_no_bank (bankOf_of_two_le hbank)))
    · exact congrArg _ (consume_of_unchanged hfree
        (ownTableClose_of_not_opened (bankOf_toNat hbank) hs))
    · exact congrArg _ (consume_of_setViews hfree
        (ownTableClose_of_opened (bankOf_toNat hbank) hs))
  case complete =>
    intro s b h wc hc hs hh hr bank holds whole firstMissing outside
    refine ⟨s.completeCheck b h wc hc, bank.check h wc hc, exec_tableCheckCompletion hs hh hr,
      State.completeCheck_frame .., State.completeCheck_kept .., State.completeCheck_views ..,
      State.completeCheck_reported .., fun k => ?_, fun k => ?_, fun k => ?_, fun n => ?_, ?_⟩
    · exact Bank.check_eq_incomplete_iff.trans Bank.missing_eq_mesh_iff
    · exact Bank.check_eq_incomplete_iff.trans Bank.missing_eq_zone_iff
    · exact Bank.check_eq_incomplete_iff.trans Bank.missing_eq_gain_iff
    · rw [Bank.check_eq_nodeOutside_iff, Bank.missing_eq_none_iff, Bank.firstOutside_eq_some_iff,
        and_assoc, and_assoc]
      rfl
    · rw [Bank.check_eq_passed_iff, Bank.missing_eq_none_iff, Bank.firstOutside_eq_none_iff,
        and_assoc, and_assoc]
      rfl

end Sys2Proof.Machine

/-! PROOFS. Power-on reset and line reset: every block at its reset value, the first temperature sample
judged from NORMAL. -/

namespace Sys2Proof.Machine

/-! ## The first temperature sample (R136, R137, R144) -/

/-- The thermal state that the first sample after a reset gives (TABLE 7-4). -/
def firstThermal (temperature : Int) : Thermal :=
  thermalNext .normal (clampInt (-40) 150 temperature)

/-- Bringing a sample into -40..150 moves it past no level of TABLE 7-4. -/
theorem firstThermal_eq (temperature : Int) :
    firstThermal temperature =
      if 125 ≤ temperature then .shutdown else if 105 ≤ temperature then .derate else .normal := by
  have hshut : 125 ≤ clampInt (-40) 150 temperature ↔ 125 ≤ temperature := by
    unfold clampInt; omega
  have hderate : 105 ≤ clampInt (-40) 150 temperature ↔ 105 ≤ temperature := by
    unfold clampInt; omega
  simp only [firstThermal, thermalNext, hshut, hderate]

/-- Lamp Protection right after a reset: the sample held, its thermal latches and ALERT as it asks. -/
def LampProtection.firstSampled (temperature : Int) : LampProtection :=
  { LampProtection.reset with
    temperature := clampInt (-40) 150 temperature
    thermal := firstThermal temperature
    warn := decide (firstThermal temperature = .derate)
    shut := decide (firstThermal temperature = .shutdown)
    alert := decide (firstThermal temperature = .shutdown) }

/-- The events latched right after a reset. -/
def resetEvents (temperature : Int) : List EventKind :=
  .resetNotice :: eventIf (decide (firstThermal temperature ≠ .normal)) .thermal

/-- A reset sets every block to its reset value but for what the phases and the temperature give; no
window is open and no segment TUNING, so the first sample cuts and aborts nothing. -/
theorem State.afterReset_eq (s : State) (a b : Bool) (temperature : Int) :
    s.afterReset a b temperature = { State.reset with
      pending := s.pending
      freeIndex := s.freeIndex
      position := { PositionUnit.reset with phaseA := a, phaseB := b }
      guard := LampProtection.firstSampled temperature
      link := { LinkUnit.reset with latches := eventMarks (resetEvents temperature) } } := by
  have hnext : thermalNext State.reset.guard.thermal (clampInt (-40) 150 temperature)
      = firstThermal temperature := rfl
  unfold State.afterReset State.sampled LampProtection.firstSampled resetEvents
  simp only [hnext]
  cases firstThermal temperature <;> rfl

/-! ## The blocks after a reset -/

theorem ViewBankStore.get_reset (k : BankId) : ViewBankStore.reset.get k = Bank.emptied := by
  cases k <;> rfl

theorem Bank.received_emptied (part : TablePart) : Bank.emptied.received part = [] := by
  cases part <;> rfl

/-- Settles O4: both resets leave the state of `State.afterReset_eq`, block by block. -/
theorem resetsSetEveryBlock : Obligations.ResetsSetEveryBlock := by
  intro s a b temperature
  refine ⟨s.afterReset a b temperature, rfl, rfl, ?_⟩
  rw [State.afterReset_eq]
  refine ⟨rfl, rfl, rfl, ?slots, rfl, ⟨rfl, rfl, rfl, rfl, rfl, ?zones⟩, ?banks, ⟨rfl, rfl, rfl⟩,
    rfl, ⟨rfl, rfl, ?drives⟩, ?guards, ⟨rfl, rfl, firstThermal_eq temperature, ?warn, ?shut, ?alert⟩,
    ⟨rfl, rfl, rfl, rfl, rfl, rfl⟩, ⟨rfl, rfl, rfl, rfl, rfl, rfl⟩, ?counters, rfl, rfl, ?latches,
    rfl⟩
  case slots =>
    intro i
    rw [State.reset, SlotPool.get_reset]
    exact ⟨rfl, rfl, rfl⟩
  case zones => exact fun z => ⟨Eight.get_all _ z, Eight.get_all _ z⟩
  case banks =>
    intro k
    rw [State.reset, ViewBankStore.get_reset]
    exact ⟨rfl, rfl, Bank.received_emptied⟩
  case drives => exact fun i => Eight.get_all _ i
  case guards => exact fun i => ⟨Eight.get_all _ i, Eight.get_all _ i⟩
  case warn => exact decide_eq_true_iff
  case shut => exact decide_eq_true_iff
  case alert => exact decide_eq_true_iff
  case counters => simp [LinkUnit.reset, Counters.zero, Counters.toList]
  case latches =>
    intro k
    rw [State.latched, eventMarks_getLsbD_iff, resetEvents, List.mem_cons, mem_eventIf,
      decide_eq_true_iff]
    rfl

end Sys2Proof.Machine

/-! PROOFS. A stored segment reads back: the segment stored among the others, the entries its bytes
spell, and the entries of a part by index. -/

namespace Sys2Proof.Machine

/-! ## Stored segments (R43, R45) -/

section
variable {α : Type}

theorem mem_storeSegment_fst (k n : Nat) (entries : List α) (part : List (Nat × List α)) :
    n ∈ (storeSegment k entries part).map Prod.fst ↔ n = k ∨ n ∈ part.map Prod.fst := by
  induction part with
  | nil => simp [storeSegment]
  | cons x rest ih =>
    unfold storeSegment
    split
    · simp
    · split
      · rename_i hk
        simp [hk]
      · rw [List.map_cons, List.mem_cons, ih, List.map_cons, List.mem_cons]
        tauto

/-- Looked up by number, a part gives the segment just stored, and any other as before. -/
theorem lookup_storeSegment (k n : Nat) (entries : List α) (part : List (Nat × List α)) :
    (storeSegment k entries part).lookup n = if n = k then some entries else part.lookup n := by
  induction part with
  | nil => by_cases h : n = k <;> simp [storeSegment, h]
  | cons x rest ih =>
    obtain ⟨m, old⟩ := x
    unfold storeSegment
    by_cases h : n = k
    · subst h
      split
      · simp
      · split
        · simp
        · rename_i hne
          simp only [List.lookup_cons, ih, if_true, beq_false_of_ne hne]
    · rw [if_neg h]
      split
      · simp only [List.lookup_cons, beq_false_of_ne h]
      · split
        · rename_i hk
          have hk : k = m := hk
          simp only [List.lookup_cons, ← hk, beq_false_of_ne h]
        · simp only [List.lookup_cons, ih, if_neg h]

/-- Entry `i` of a part in which segment `k` has just been stored, in a part of `count` entries: read from
that segment when its number is `k`. -/
theorem segmentEntry_storeSegment {size count k i : Nat} (hs : 0 < size) (hi : i < count)
    (f : Nat → α) (part : List (Nat × List α)) :
    segmentEntry size i
        (storeSegment k ((List.range (min size (count - size * k))).map f) part) =
      if i / size = k then some (f (i % size)) else segmentEntry size i part := by
  unfold segmentEntry
  rw [lookup_storeSegment]
  by_cases h : i / size = k
  · have hlt : i % size < min size (count - size * k) := by
      have := Nat.mod_lt i hs
      have := Nat.div_add_mod i size
      rw [h] at this
      omega
    simp [h, hlt]
  · simp only [if_neg h]

end

/-! ## The entries that bytes spell (R46, TABLE 8-3) -/

/-- Byte `j` as a number. -/
def byteValue (bytes : List Byte) (j : Nat) : Nat :=
  (bytes.getD j 0).toNat

/-- Mesh node `j` of a segment's bytes, by its fields, and whether it is adjusted (R46 case c). -/
def meshEntry (bytes : List Byte) (j : Nat) : MeshNode × Bool :=
  ({ sx := min 20479 (byteValue bytes (4 * j) % 128 * 256 + byteValue bytes (4 * j + 1))
     sy := byteValue bytes (4 * j + 2) % 64 * 256 + byteValue bytes (4 * j + 3)
     isVoid := decide (128 ≤ byteValue bytes (4 * j)) },
    decide (20479 < byteValue bytes (4 * j) % 128 * 256 + byteValue bytes (4 * j + 1)))

/-- Half `j` of a segment's bytes, the higher half of a byte first. -/
def nibbleValue (bytes : List Byte) (j : Nat) : Nat :=
  if j % 2 = 0 then byteValue bytes (j / 2) / 16 else byteValue bytes (j / 2) % 16

/-- Zone entry `j` of a segment's bytes (R46 case b). -/
def zoneEntry (bytes : List Byte) (j : Nat) : Option (Fin 8) × Bool :=
  readZoneEntry (BitVec.ofNat 4 (nibbleValue bytes j))

/-- Gain node `j` of a segment's bytes, and whether it is adjusted (R46 case a). -/
def gainEntry (bytes : List Byte) (j : Nat) : Nat × Bool :=
  (min (byteValue bytes (2 * j) * 256 + byteValue bytes (2 * j + 1)) 4095,
    decide (4095 < byteValue bytes (2 * j) * 256 + byteValue bytes (2 * j + 1)))

/-- A byte appended to a word is its lowest byte. -/
theorem toNat_append_byte {w : Nat} (x : BitVec w) (b : Byte) :
    (x ++ b).toNat = x.toNat * 256 + b.toNat := by
  rw [BitVec.toNat_append, ← Nat.shiftLeft_add_eq_or_of_lt b.isLt, Nat.shiftLeft_eq]

theorem readMeshNode_eq (b0 b1 b2 b3 : Byte) (rest : List Byte) :
    readMeshNode b0 b1 b2 b3 = meshEntry (b0 :: b1 :: b2 :: b3 :: rest) 0 := by
  have h0 := b0.isLt
  have h1 := b1.isLt
  have h2 := b2.isLt
  have h3 := b3.isLt
  have hw : (b0 ++ b1 ++ b2 ++ b3).toNat
      = ((b0.toNat * 256 + b1.toNat) * 256 + b2.toNat) * 256 + b3.toNat := by
    simp only [toNat_append_byte]
  have hsx : ((b0 ++ b1 ++ b2 ++ b3).extractLsb' 16 15).toNat
      = b0.toNat % 128 * 256 + b1.toNat := by
    rw [BitVec.extractLsb'_toNat, hw, Nat.shiftRight_eq_div_pow]
    omega
  have hsy : ((b0 ++ b1 ++ b2 ++ b3).extractLsb' 0 14).toNat
      = b2.toNat % 64 * 256 + b3.toNat := by
    rw [BitVec.extractLsb'_toNat, hw, Nat.shiftRight_zero]
    omega
  have hvoid : (b0 ++ b1 ++ b2 ++ b3).getLsbD 31 = decide (128 ≤ b0.toNat) := by
    rw [← BitVec.testBit_toNat, hw, Nat.testBit_eq_decide_div_mod_eq]
    exact decide_eq_decide.mpr (by omega)
  simp only [readMeshNode, hsx, hsy, hvoid, Nat.min_comm _ 20479]
  rfl

/-- A whole number of mesh nodes, read from their bytes. -/
theorem readMesh_eq (n : Nat) (bytes : List Byte) (h : bytes.length = 4 * n) :
    readMesh bytes = (List.range n).map (meshEntry bytes) := by
  induction n generalizing bytes with
  | zero =>
    obtain rfl := List.length_eq_zero_iff.mp h
    rfl
  | succ n ih =>
    match bytes, h with
    | b0 :: b1 :: b2 :: b3 :: rest, h =>
      rw [readMesh, readMeshNode_eq b0 b1 b2 b3 rest, ih rest (by simpa [Nat.mul_succ] using h),
        List.range_succ_eq_map, List.map_cons, List.map_map]
      rfl

/-- A whole number of gain nodes, read from their bytes. -/
theorem readGains_eq (n : Nat) (bytes : List Byte) (h : bytes.length = 2 * n) :
    readGains bytes = (List.range n).map (gainEntry bytes) := by
  induction n generalizing bytes with
  | zero =>
    obtain rfl := List.length_eq_zero_iff.mp h
    rfl
  | succ n ih =>
    match bytes, h with
    | b0 :: b1 :: rest, h =>
      rw [readGains, ih rest (by simpa [Nat.mul_succ] using h), List.range_succ_eq_map,
        List.map_cons, List.map_map]
      simp only [toNat_append_byte]
      rfl

/-- A byte holds two zone entries, the first in its higher half (TABLE 8-3). -/
theorem zoneEntry_cons (b : Byte) (rest : List Byte) :
    zoneEntry (b :: rest) 0 = readZoneEntry (b.extractLsb' 4 4)
      ∧ zoneEntry (b :: rest) 1 = readZoneEntry (b.extractLsb' 0 4)
      ∧ ∀ j, zoneEntry (b :: rest) (j + 2) = zoneEntry rest j := by
  refine ⟨congrArg readZoneEntry ?_, congrArg readZoneEntry ?_, fun j => ?_⟩
  · rw [BitVec.extractLsb', Nat.shiftRight_eq_div_pow]
    rfl
  · apply BitVec.eq_of_toNat_eq
    rw [BitVec.extractLsb'_toNat, BitVec.toNat_ofNat, Nat.shiftRight_zero]
    exact Nat.mod_mod ..
  · simp [zoneEntry, nibbleValue, byteValue]

/-- The zone entries of a segment, two to a byte. -/
theorem readZones_eq (bytes : List Byte) :
    readZones bytes = (List.range (2 * bytes.length)).map (zoneEntry bytes) := by
  induction bytes with
  | nil => rfl
  | cons b rest ih =>
    obtain ⟨hhigh, hlow, hrest⟩ := zoneEntry_cons b rest
    have hcons : readZones (b :: rest) = readZoneEntry (b.extractLsb' 4 4)
        :: readZoneEntry (b.extractLsb' 0 4) :: readZones rest := rfl
    rw [hcons, ih, List.length_cons, Nat.mul_succ, List.range_succ_eq_map,
      List.range_succ_eq_map]
    simp only [List.map_cons, List.map_map, ← hhigh, ← hlow]
    exact congrArg _ (congrArg _ (List.map_congr_left fun j _ => (hrest j).symm))

theorem toNat_nibble (bytes : List Byte) (j : Nat) :
    (BitVec.ofNat 4 (nibbleValue bytes j)).toNat = nibbleValue bytes j := by
  have hbyte : byteValue bytes (j / 2) < 256 := BitVec.isLt _
  apply Nat.mod_eq_of_lt
  unfold nibbleValue
  split <;> omega

/-- A zone entry taken is a zone below 8, else NONE (R46 case b). -/
theorem zoneEntry_fst (bytes : List Byte) (j : Nat) :
    (zoneEntry bytes j).1.map Fin.val =
      if nibbleValue bytes j < 8 then some (nibbleValue bytes j) else none := by
  unfold zoneEntry readZoneEntry
  simp only [toNat_nibble]
  split <;> rfl

/-- The codes 8..14 are those adjusted (R46 case b). -/
theorem zoneEntry_snd (bytes : List Byte) (j : Nat) :
    (zoneEntry bytes j).2 = decide (8 ≤ nibbleValue bytes j ∧ nibbleValue bytes j ≤ 14) := by
  have hlt : nibbleValue bytes j < 16 := toNat_nibble bytes j ▸ BitVec.isLt _
  unfold zoneEntry readZoneEntry
  simp only [toNat_nibble]
  split
  · exact (decide_eq_false (by omega)).symm
  · exact decide_eq_decide.mpr (by omega)

/-! ## A segment loaded (R45, R46) -/

theorem take_map_range {α : Type} {n c : Nat} (hc : c ≤ n) (f : Nat → α) :
    ((List.range n).map f).take c = (List.range c).map f := by
  rw [← List.map_take, List.take_range, Nat.min_eq_left hc]

/-- How many of the first entries are adjusted. -/
theorem countP_map_range {α : Type} (f : Nat → α × Bool) (c : Nat) :
    ((List.range c).map f).countP Prod.snd = ((List.range c).filter fun j => (f j).2).length := by
  rw [List.countP_map, List.countP_eq_length_filter]
  rfl

section
variable (b : Bank) (h : Header) (k : Nat) {bytes : List Byte}

theorem Bank.load_mesh (hlen : bytes.length = 60) :
    b.load h .mesh k bytes =
      ({ b with
          mesh := storeSegment k
            ((List.range (h.stored .mesh k)).map fun j => (meshEntry bytes j).1) b.mesh },
        ((List.range (h.stored .mesh k)).filter fun j => (meshEntry bytes j).2).length) := by
  have htaken : (readMesh bytes).take (h.stored .mesh k)
      = (List.range (h.stored .mesh k)).map (meshEntry bytes) := by
    rw [readMesh_eq 15 bytes hlen]
    exact take_map_range (Nat.min_le_left ..) _
  simp only [Bank.load, htaken, countP_map_range, List.map_map]
  rfl

theorem Bank.load_zone (hlen : bytes.length = 60) :
    b.load h .zone k bytes =
      ({ b with
          zones := storeSegment k
            ((List.range (h.stored .zone k)).map fun j => (zoneEntry bytes j).1) b.zones },
        ((List.range (h.stored .zone k)).filter fun j => (zoneEntry bytes j).2).length) := by
  have htaken : (readZones bytes).take (h.stored .zone k)
      = (List.range (h.stored .zone k)).map (zoneEntry bytes) := by
    rw [readZones_eq, hlen]
    exact take_map_range (Nat.min_le_left ..) _
  simp only [Bank.load, htaken, countP_map_range, List.map_map]
  rfl

theorem Bank.load_gain (hlen : bytes.length = 60) :
    b.load h .gain k bytes =
      ({ b with
          gains := storeSegment k
            ((List.range (h.stored .gain k)).map fun j => (gainEntry bytes j).1) b.gains },
        ((List.range (h.stored .gain k)).filter fun j => (gainEntry bytes j).2).length) := by
  have htaken : (readGains bytes).take (h.stored .gain k)
      = (List.range (h.stored .gain k)).map (gainEntry bytes) := by
    rw [readGains_eq 30 bytes hlen]
    exact take_map_range (Nat.min_le_left ..) _
  simp only [Bank.load, htaken, countP_map_range, List.map_map]
  rfl

/-- After a load mesh node `i` is the one the bytes spell, when its segment is the one stored. -/
theorem Bank.node_load (hlen : bytes.length = 60) {i : Nat} (hi : i < h.entries .mesh) :
    (b.load h .mesh k bytes).1.node i =
      if i / 15 = k then (meshEntry bytes (i % 15)).1 else b.node i := by
  rw [Bank.load_mesh b h k hlen, Bank.node, Header.stored,
    segmentEntry_storeSegment (by decide) hi, segmentSize]
  split <;> rfl

theorem Bank.zone_load (hlen : bytes.length = 60) {i : Nat} (hi : i < h.entries .zone) :
    (b.load h .zone k bytes).1.zone i =
      if i / 120 = k then (zoneEntry bytes (i % 120)).1 else b.zone i := by
  rw [Bank.load_zone b h k hlen, Bank.zone, Header.stored,
    segmentEntry_storeSegment (by decide) hi, segmentSize]
  split <;> rfl

theorem Bank.gain_load (hlen : bytes.length = 60) {i : Nat} (hi : i < h.entries .gain) :
    (b.load h .gain k bytes).1.gain i =
      if i / 30 = k then (gainEntry bytes (i % 30)).1 else b.gain i := by
  rw [Bank.load_gain b h k hlen, Bank.gain, Header.stored,
    segmentEntry_storeSegment (by decide) hi, segmentSize]
  split <;> rfl

/-- The number of a segment loaded joins the received-segment set of its part (R45). -/
theorem Bank.mem_received_load {part : TablePart} {n : Nat} :
    n ∈ (b.load h part k bytes).1.received part ↔ n = k ∨ n ∈ b.received part := by
  cases part <;> exact mem_storeSegment_fst ..

end

/-- Settles O16: each part is a list of segments of which one is stored; the entries it stores are those
the bytes spell. -/
theorem storedSegmentReadsBack : Obligations.StoredSegmentReadsBack := by
  intro b h k bytes hlen value sx nibble gain m z g
  refine ⟨⟨Bank.load_eq .., fun n => Bank.mem_received_load b h k, ?meshCount, fun i hi => ?node⟩,
    ⟨Bank.load_eq .., fun n => Bank.mem_received_load b h k, ?zoneCount, fun i hi => ?zone⟩,
    ⟨Bank.load_eq .., fun n => Bank.mem_received_load b h k, ?gainCount, fun i hi => ?gain⟩⟩
  case meshCount => exact congrArg Prod.snd (Bank.load_mesh b h k hlen)
  case node => exact Bank.node_load b h k hlen hi
  case zoneCount =>
    refine (congrArg Prod.snd (Bank.load_zone b h k hlen)).trans ?_
    simp only [zoneEntry_snd]
    rfl
  case zone =>
    rw [Bank.zone_load b h k hlen hi, apply_ite (Option.map Fin.val), zoneEntry_fst]
    rfl
  case gainCount => exact congrArg Prod.snd (Bank.load_gain b h k hlen)
  case gain =>
    rw [Bank.gain_load b h k hlen hi, gainEntry, Nat.min_comm]
    rfl

end Sys2Proof.Machine

/-! PROOFS. The defect list in order: what an edit makes of it, how the peak size moves, and the
merge of a survey's candidates. -/

namespace Sys2Proof.Machine

/-! ## Coordinates and their order (R69) -/

/-- No entry of a list has a coordinate. -/
def Unlisted (list : List DefectEntry) (row column : Nat) : Prop :=
  ∀ e ∈ list, ¬(e.row = row ∧ e.column = column)

@[simp] theorem DefectEntry.isAt_iff (e : DefectEntry) (row column : Nat) :
    e.isAt row column = true ↔ e.row = row ∧ e.column = column := by
  simp [DefectEntry.isAt]

theorem hasDefect_iff (list : List DefectEntry) (row column : Nat) :
    hasDefect list row column = true ↔ ∃ e ∈ list, e.row = row ∧ e.column = column := by
  simp [hasDefect]

theorem hasDefect_eq_false_iff (list : List DefectEntry) (row column : Nat) :
    hasDefect list row column = false ↔ Unlisted list row column := by
  simp [← Bool.not_eq_true, hasDefect_iff, Unlisted]

theorem coordinateBefore_iff (x y : DefectEntry) :
    coordinateBefore x.row x.column y.row y.column = true ↔ x.Before y := by
  simp [coordinateBefore, DefectEntry.Before]

theorem DefectEntry.Before.trans {x y z : DefectEntry} (hxy : x.Before y) (hyz : y.Before z) :
    x.Before z := by
  unfold DefectEntry.Before at *
  omega

theorem DefectEntry.not_before_self (x : DefectEntry) : ¬x.Before x := by
  unfold DefectEntry.Before
  omega

/-- An entry neither before another nor at its coordinate comes after it. -/
theorem DefectEntry.before_of_not {x y : DefectEntry} (hbefore : ¬x.Before y)
    (hat : ¬(y.row = x.row ∧ y.column = x.column)) : y.Before x := by
  unfold DefectEntry.Before at *
  omega

/-- Two lists in order with the same entries are equal. -/
theorem eq_of_ordered {l m : List DefectEntry} (hl : l.Pairwise DefectEntry.Before)
    (hm : m.Pairwise DefectEntry.Before) (h : ∀ e, e ∈ l ↔ e ∈ m) : l = m := by
  have hirrefl : Std.Irrefl DefectEntry.Before := ⟨DefectEntry.not_before_self⟩
  have hantisymm : Std.Antisymm DefectEntry.Before :=
    ⟨fun x _ hxy hyx => absurd (hxy.trans hyx) x.not_before_self⟩
  exact hl.eq_of_mem_iff hm h

/-! ## An entry inserted (R69, R77) -/

theorem mem_of_mem_insertDefect {e x : DefectEntry} {list : List DefectEntry}
    (h : x ∈ insertDefect e list) : x = e ∨ x ∈ list := by
  induction list with
  | nil => simpa [insertDefect] using h
  | cons y rest ih =>
    unfold insertDefect at h
    split at h
    · simpa using h
    · split at h
      · exact .inr h
      · rcases List.mem_cons.mp h with rfl | h
        · simp
        · rcases ih h with rfl | h <;> simp [*]

/-- An entry of an absent coordinate joins the list. -/
theorem mem_insertDefect {e x : DefectEntry} {list : List DefectEntry}
    (h : Unlisted list e.row e.column) : x ∈ insertDefect e list ↔ x = e ∨ x ∈ list := by
  refine ⟨mem_of_mem_insertDefect, ?_⟩
  induction list with
  | nil => simp [insertDefect]
  | cons y rest ih =>
    obtain ⟨hy, hrest⟩ := List.forall_mem_cons.mp h
    unfold insertDefect
    split
    · simp
    · rw [if_neg (by simpa using hy)]
      intro hx
      have := ih hrest
      simp only [List.mem_cons] at hx ⊢
      tauto

theorem length_insertDefect {e : DefectEntry} {list : List DefectEntry}
    (h : Unlisted list e.row e.column) : (insertDefect e list).length = list.length + 1 := by
  induction list with
  | nil => rfl
  | cons y rest ih =>
    obtain ⟨hy, hrest⟩ := List.forall_mem_cons.mp h
    unfold insertDefect
    split
    · rfl
    · rw [if_neg (by simpa using hy), List.length_cons, ih hrest, List.length_cons]

/-- An inserted entry stands at the place its coordinate sets. -/
theorem insertDefect_ordered (e : DefectEntry) {list : List DefectEntry}
    (h : list.Pairwise DefectEntry.Before) : (insertDefect e list).Pairwise DefectEntry.Before := by
  induction list with
  | nil => simp [insertDefect]
  | cons y rest ih =>
    obtain ⟨hy, hrest⟩ := List.pairwise_cons.mp h
    unfold insertDefect
    split
    · rename_i hbefore
      rw [coordinateBefore_iff] at hbefore
      refine List.pairwise_cons.mpr ⟨fun x hx => ?_, h⟩
      rcases List.mem_cons.mp hx with rfl | hx
      exacts [hbefore, hbefore.trans (hy x hx)]
    · rename_i hbefore
      rw [coordinateBefore_iff] at hbefore
      split
      · exact h
      · rename_i hat
        refine List.pairwise_cons.mpr ⟨fun x hx => ?_, ih hrest⟩
        rcases mem_of_mem_insertDefect hx with rfl | hx
        exacts [DefectEntry.before_of_not hbefore (by simpa using hat), hy x hx]

/-- Insertions of two coordinates can change places. -/
theorem insertDefect_comm {e x : DefectEntry} {list : List DefectEntry}
    (h : list.Pairwise DefectEntry.Before) (he : Unlisted list e.row e.column)
    (hx : Unlisted list x.row x.column) (hne : ¬(x.row = e.row ∧ x.column = e.column)) :
    insertDefect x (insertDefect e list) = insertDefect e (insertDefect x list) := by
  have hxe : Unlisted (insertDefect e list) x.row x.column := by
    intro y hy
    rcases mem_of_mem_insertDefect hy with rfl | hy
    exacts [fun hat => hne ⟨hat.1.symm, hat.2.symm⟩, hx y hy]
  have hex : Unlisted (insertDefect x list) e.row e.column := by
    intro y hy
    rcases mem_of_mem_insertDefect hy with rfl | hy
    exacts [hne, he y hy]
  refine eq_of_ordered (insertDefect_ordered _ (insertDefect_ordered _ h))
    (insertDefect_ordered _ (insertDefect_ordered _ h)) fun y => ?_
  rw [mem_insertDefect hxe, mem_insertDefect hex, mem_insertDefect he, mem_insertDefect hx]
  tauto

/-- Filtering a list an entry was inserted into is filtering first, then inserting the entry if
kept. -/
theorem filter_insertDefect {e : DefectEntry} {list : List DefectEntry} (p : DefectEntry → Bool)
    (h : list.Pairwise DefectEntry.Before) (he : Unlisted list e.row e.column) :
    (insertDefect e list).filter p =
      if p e then insertDefect e (list.filter p) else list.filter p := by
  have he' : Unlisted (list.filter p) e.row e.column := fun y hy => he y (List.mem_filter.mp hy).1
  split
  · refine eq_of_ordered ((insertDefect_ordered _ h).filter _)
      (insertDefect_ordered _ (h.filter _)) fun y => ?_
    rw [List.mem_filter, mem_insertDefect he, mem_insertDefect he', List.mem_filter]
    grind
  · refine eq_of_ordered ((insertDefect_ordered _ h).filter _) (h.filter _) fun y => ?_
    rw [List.mem_filter, mem_insertDefect he, List.mem_filter]
    grind

/-- The entry of a coordinate already listed stays (notes/assumptions/28). -/
theorem insertDefect_of_listed {e : DefectEntry} {list : List DefectEntry}
    (h : list.Pairwise DefectEntry.Before) (he : ∃ y ∈ list, y.row = e.row ∧ y.column = e.column) :
    insertDefect e list = list := by
  induction list with
  | nil => simp at he
  | cons y rest ih =>
    obtain ⟨hy, hrest⟩ := List.pairwise_cons.mp h
    have hfirst : ¬e.Before y := by
      obtain ⟨z, hz, hrow, hcolumn⟩ := he
      rcases List.mem_cons.mp hz with rfl | hz
      · simp [DefectEntry.Before, hrow, hcolumn]
      · have := hy z hz
        unfold DefectEntry.Before at *
        omega
    unfold insertDefect
    rw [if_neg (by rwa [coordinateBefore_iff])]
    split
    · rfl
    · rename_i hat
      obtain ⟨z, hz, hcoordinate⟩ := he
      rcases List.mem_cons.mp hz with rfl | hz
      · exact absurd hcoordinate (by simpa using hat)
      · rw [ih hrest ⟨z, hz, hcoordinate⟩]

/-! ## Edits (R73 to R77) -/

theorem applyEdit_add (list : List DefectEntry) (row column : Nat) (method : Method) :
    applyEdit list (.add row column method)
      = insertDefect { row, column, method, origin := .loaded } list := rfl

theorem applyEdit_remove (list : List DefectEntry) (row column : Nat) :
    applyEdit list (.remove row column) = list.filter fun e => !e.isAt row column := rfl

theorem applyEdit_clear (list : List DefectEntry) (learnedOnly : Bool) :
    applyEdit list (.clear learnedOnly)
      = list.filter fun e => learnedOnly && decide (e.origin = .loaded) := rfl

/-- Every edit keeps the list in order. -/
theorem applyEdit_ordered {list : List DefectEntry} (h : list.Pairwise DefectEntry.Before)
    (edit : Edit) : (applyEdit list edit).Pairwise DefectEntry.Before := by
  cases edit with
  | add row column method => exact insertDefect_ordered _ h
  | remove row column => exact h.filter _
  | clear learnedOnly => exact h.filter _

theorem applyEdits_ordered {list : List DefectEntry} (h : list.Pairwise DefectEntry.Before)
    (edits : List Edit) : (applyEdits list edits).Pairwise DefectEntry.Before := by
  induction edits generalizing list with
  | nil => exact h
  | cons edit rest ih => exact ih (applyEdit_ordered h edit)

theorem applyEdits_append (list : List DefectEntry) (edits : List Edit) (edit : Edit) :
    applyEdits list (edits ++ [edit]) = applyEdit (applyEdits list edits) edit := by
  simp [applyEdits]

/-- Only an ADD makes the list longer. -/
theorem length_applyEdit_le (list : List DefectEntry) {edit : Edit}
    (h : ∀ row column method, edit ≠ .add row column method) :
    (applyEdit list edit).length ≤ list.length := by
  cases edit with
  | add row column method => exact absurd rfl (h row column method)
  | remove row column => exact List.length_filter_le ..
  | clear learnedOnly => exact List.length_filter_le ..

/-! ## The peak size (section 4.7) -/

theorem length_le_peakSize (list : List DefectEntry) (edits : List Edit) :
    list.length ≤ peakSize list edits := by
  cases edits with
  | nil => exact Nat.le_refl _
  | cons edit rest => exact Nat.le_max_left ..

theorem length_applyEdits_le_peakSize (list : List DefectEntry) (edits : List Edit) :
    (applyEdits list edits).length ≤ peakSize list edits := by
  induction edits generalizing list with
  | nil => exact Nat.le_refl _
  | cons edit rest ih => exact (ih (applyEdit list edit)).trans (Nat.le_max_right ..)

theorem peakSize_append (list : List DefectEntry) (edits : List Edit) (edit : Edit) :
    peakSize list (edits ++ [edit])
      = max (peakSize list edits) (applyEdit (applyEdits list edits) edit).length := by
  induction edits generalizing list with
  | nil => rfl
  | cons first rest ih =>
    rw [List.cons_append, peakSize, peakSize, ih, Nat.max_assoc]
    rfl

/-- A coordinate that an ADD does not name stays absent as an edit is applied. -/
theorem Unlisted.applyEdit {list : List DefectEntry} {row column : Nat} {edit : Edit}
    (h : Unlisted list row column) (hnames : edit.names row column = false) :
    Unlisted (applyEdit list edit) row column := by
  cases edit with
  | add r c method =>
    intro y hy
    rcases mem_of_mem_insertDefect hy with rfl | hy
    · simpa [Edit.names] using hnames
    · exact h y hy
  | remove r c => exact fun y hy => h y (List.mem_filter.mp hy).1
  | clear learnedOnly => exact fun y hy => h y (List.mem_filter.mp hy).1

/-- An entry that no ADD or REMOVE names passes through an edit, unless a CLEAR takes it out. -/
theorem applyEdit_insertDefect {e : DefectEntry} {list : List DefectEntry} {edit : Edit}
    (h : list.Pairwise DefectEntry.Before) (he : Unlisted list e.row e.column)
    (hnames : edit.names e.row e.column = false) :
    applyEdit (insertDefect e list) edit = insertDefect e (applyEdit list edit)
      ∨ applyEdit (insertDefect e list) edit = applyEdit list edit := by
  cases edit with
  | add row column method =>
    left
    have hne : ¬(row = e.row ∧ column = e.column) := by simpa [Edit.names] using hnames
    by_cases hx : Unlisted list row column
    · exact insertDefect_comm h he hx hne
    · have hlisted : ∃ y ∈ list, y.row = row ∧ y.column = column := by
        simpa [Unlisted] using hx
      obtain ⟨y, hy, hcoordinate⟩ := hlisted
      have hstays := insertDefect_of_listed (e := { row, column, method, origin := .loaded })
        (insertDefect_ordered e h) ⟨y, (mem_insertDefect he).mpr (.inr hy), hcoordinate⟩
      have hstays' := insertDefect_of_listed (e := { row, column, method, origin := .loaded })
        h ⟨y, hy, hcoordinate⟩
      rw [applyEdit_add, applyEdit_add, hstays, hstays']
  | remove row column =>
    rw [applyEdit_remove, applyEdit_remove, filter_insertDefect _ h he]
    split <;> simp
  | clear learnedOnly =>
    rw [applyEdit_clear, applyEdit_clear, filter_insertDefect _ h he]
    split <;> simp

/-- One entry more raises the peak size by at most one (R81 case b). -/
theorem peakSize_insertDefect_le {e : DefectEntry} {list : List DefectEntry} {edits : List Edit}
    (h : list.Pairwise DefectEntry.Before) (he : Unlisted list e.row e.column)
    (hnames : ∀ edit ∈ edits, edit.names e.row e.column = false) :
    peakSize (insertDefect e list) edits ≤ peakSize list edits + 1 := by
  induction edits generalizing list with
  | nil => exact (length_insertDefect he).le
  | cons edit rest ih =>
    obtain ⟨hedit, hrest⟩ := List.forall_mem_cons.mp hnames
    have hfirst := length_insertDefect he
    have hlater : peakSize (applyEdit (insertDefect e list) edit) rest
        ≤ peakSize (applyEdit list edit) rest + 1 := by
      rcases applyEdit_insertDefect h he hedit with heq | heq <;> rw [heq]
      · exact ih (applyEdit_ordered h edit) (he.applyEdit hedit) hrest
      · omega
    simp only [peakSize]
    omega

/-! ## The merge of a survey (R81) -/

/-- The candidates that no queued ADD or REMOVE names (R81 case a). -/
def unnamedCandidates (edits : List Edit) (candidates : List (Nat × Nat)) : List (Nat × Nat) :=
  candidates.filter fun c => !edits.any fun e => e.names c.1 c.2

/-- The entry a merged candidate becomes (R81 case b). -/
def learnedEntry (c : Nat × Nat) : DefectEntry :=
  { row := c.1, column := c.2, method := .q, origin := .learned }

/-- What a merge makes of `m` when the first `k` of the candidates judged join the list. -/
structure Merge.Joined (edits : List Edit) (m out : Merge) (judged : List (Nat × Nat)) (k : Nat) :
    Prop where
  le : k ≤ judged.length
  ordered : out.list.Pairwise DefectEntry.Before
  peak : peakSize out.list edits ≤ 512
  added : out.added = m.added + k
  overflow : out.overflow = m.overflow + (judged.length - k)
  length : out.list.length = m.list.length + k
  mem : ∀ e, e ∈ out.list ↔ e ∈ m.list ∨ ∃ c ∈ judged.take k, e = learnedEntry c
  full : k < judged.length → peakSize out.list edits = 512

theorem Merge.judge_of_named {edits : List Edit} {c : Nat × Nat}
    (h : (edits.any fun e => e.names c.1 c.2) = true) (m : Merge) : m.judge edits c = m :=
  if_pos h

theorem Merge.judge_of_room {edits : List Edit} {c : Nat × Nat} {m : Merge}
    (h : ¬(edits.any fun e => e.names c.1 c.2) = true) (hroom : peakSize m.list edits < 512) :
    m.judge edits c
      = { m with list := insertDefect (learnedEntry c) m.list, added := m.added + 1 } :=
  (if_neg h).trans (if_pos hroom)

theorem Merge.judge_of_full {edits : List Edit} {c : Nat × Nat} {m : Merge}
    (h : ¬(edits.any fun e => e.names c.1 c.2) = true) (hfull : peakSize m.list edits = 512) :
    m.judge edits c = { m with overflow := m.overflow + 1 } :=
  (if_neg h).trans (if_neg (by simp [hfull, Config.defectCapacity]))

/-- Once the peak size is 512 every candidate judged is overflow (R81 case c). -/
theorem foldl_judge_of_full {edits : List Edit} {m : Merge} (hfull : peakSize m.list edits = 512)
    (candidates : List (Nat × Nat)) :
    candidates.foldl (Merge.judge edits) m
      = { m with overflow := m.overflow + (unnamedCandidates edits candidates).length } := by
  induction candidates generalizing m with
  | nil => rfl
  | cons c rest ih =>
    rw [List.foldl_cons]
    by_cases hnamed : edits.any (fun e => e.names c.1 c.2) = true
    · rw [Merge.judge_of_named hnamed, ih hfull]
      simp [unnamedCandidates, hnamed]
    · rw [Merge.judge_of_full hnamed hfull]
      refine (ih (m := { m with overflow := m.overflow + 1 }) hfull).trans ?_
      simp [unnamedCandidates, hnamed, Nat.add_assoc, Nat.add_comm 1]

/-- With the peak size 512 none of the candidates judged joins. -/
theorem Merge.joined_of_full {edits : List Edit} {m : Merge}
    (hlist : m.list.Pairwise DefectEntry.Before) (hfull : peakSize m.list edits = 512)
    (judged : List (Nat × Nat)) :
    m.Joined edits { m with overflow := m.overflow + judged.length } judged 0 :=
  ⟨Nat.zero_le _, hlist, hfull.le, rfl, rfl, rfl, by simp, fun _ => hfull⟩

/-- A candidate that joins comes before those that join after it. -/
theorem Merge.Joined.cons {edits : List Edit} {m out : Merge} {c : Nat × Nat}
    {judged : List (Nat × Nat)} {k : Nat} (hc : Unlisted m.list c.1 c.2)
    (h : Merge.Joined edits
      { m with list := insertDefect (learnedEntry c) m.list, added := m.added + 1 } out judged k) :
    m.Joined edits out (c :: judged) (k + 1) := by
  have hc : Unlisted m.list (learnedEntry c).row (learnedEntry c).column := hc
  obtain ⟨hle, hordered, hpeak, hadded, hoverflow, hlength, hmem, hfull⟩ := h
  refine ⟨Nat.succ_le_succ hle, hordered, hpeak, hadded.trans (Nat.add_right_comm ..),
    by simpa using hoverflow, hlength.trans ?_, fun e => (hmem e).trans ?_,
    fun hlt => hfull (Nat.lt_of_succ_lt_succ hlt)⟩
  · simp only [length_insertDefect hc]
    omega
  · simp only [mem_insertDefect hc, List.take_succ_cons, List.mem_cons, exists_eq_or_imp]
    tauto

/-- Candidates in order and unlisted join the list one by one until the peak size is 512. -/
theorem foldl_judge_joined {edits : List Edit} {candidates : List (Nat × Nat)} {m : Merge}
    (hlist : m.list.Pairwise DefectEntry.Before) (hpeak : peakSize m.list edits ≤ 512)
    (horder : candidates.Pairwise fun a b => a.1 < b.1 ∨ (a.1 = b.1 ∧ a.2 < b.2))
    (hunlisted : ∀ c ∈ candidates, Unlisted m.list c.1 c.2) :
    ∃ k, m.Joined edits (candidates.foldl (Merge.judge edits) m)
      (unnamedCandidates edits candidates) k := by
  induction candidates generalizing m with
  | nil => exact ⟨0, Nat.le_refl _, hlist, hpeak, rfl, rfl, rfl, by simp [unnamedCandidates],
      by simp [unnamedCandidates]⟩
  | cons c rest ih =>
    obtain ⟨hc, hrest⟩ := List.forall_mem_cons.mp hunlisted
    obtain ⟨hbefore, horder⟩ := List.pairwise_cons.mp horder
    by_cases hnamed : edits.any (fun e => e.names c.1 c.2) = true
    · obtain ⟨k, hk⟩ := ih hlist hpeak horder hrest
      refine ⟨k, ?_⟩
      rw [List.foldl_cons, Merge.judge_of_named hnamed]
      simpa [unnamedCandidates, hnamed] using hk
    · have hjudged : unnamedCandidates edits (c :: rest) = c :: unnamedCandidates edits rest := by
        simp [unnamedCandidates, hnamed]
      have hunnamed : ∀ edit ∈ edits, edit.names c.1 c.2 = false := by simpa using hnamed
      by_cases hroom : peakSize m.list edits < 512
      · have hlater : ∀ d ∈ rest, Unlisted (insertDefect (learnedEntry c) m.list) d.1 d.2 := by
          intro d hd y hy
          rcases mem_of_mem_insertDefect hy with rfl | hy
          · have := hbefore d hd
            simp only [learnedEntry]
            omega
          · exact hrest d hd y hy
        obtain ⟨k, hk⟩ := ih
          (m := { m with list := insertDefect (learnedEntry c) m.list, added := m.added + 1 })
          (insertDefect_ordered _ hlist)
          ((peakSize_insertDefect_le hlist hc hunnamed).trans hroom) horder hlater
        refine ⟨k + 1, ?_⟩
        rw [List.foldl_cons, Merge.judge_of_room hnamed hroom, hjudged]
        exact hk.cons hc
      · have hfull : peakSize m.list edits = 512 := by omega
        rw [foldl_judge_of_full hfull]
        exact ⟨0, Merge.joined_of_full hlist hfull _⟩

/-- Only a COLLECTING survey is merged at a frame's end (R66 case e). -/
theorem SensorIntake.frameDone_of_not_collecting {u : SensorIntake}
    (h : u.survey.isCollecting = false) (q : BitVec 16) :
    u.frameDone q = { u with intake := .waiting } := by
  unfold SensorIntake.frameDone
  split
  · rfl
  · rfl
  · simp_all [Survey.isCollecting]

/-- A COLLECTING survey's merge at the end of its frame (R81). -/
theorem SensorIntake.frameDone_of_collecting {u : SensorIntake} {threshold overflow : Nat}
    {candidates : List (Nat × Nat)}
    (h : u.survey = .collecting threshold candidates overflow) (q : BitVec 16) :
    u.frameDone q =
      { u with
        intake := .waiting
        defects := (mergeCandidates u.defects u.edits candidates overflow).list
        survey := .idle
        lastSurvey := some
          { added := (mergeCandidates u.defects u.edits candidates overflow).added
            overflow := (mergeCandidates u.defects u.edits candidates overflow).overflow
            sequence := q } } := by
  simp [SensorIntake.frameDone, h]

/-- Settles O20: edits and insertions keep the list in order, and one insertion raises the peak size
by at most one, so candidates join until it is 512 and none does after. -/
theorem editsAndMergesKeepTheOrder : Obligations.EditsAndMergesKeepTheOrder := by
  refine ⟨fun list hlist => ⟨fun row column m habsent => ?add, fun row column => ?remove, ?clearAll,
    applyEdit_ordered hlist _, ?clearLearned⟩, fun u q => ⟨fun h => ?rest, ?merge⟩⟩
  case add =>
    exact ⟨applyEdit_ordered hlist _, length_insertDefect habsent,
      fun e => mem_insertDefect habsent⟩
  case remove =>
    refine ⟨applyEdit_ordered hlist _, fun e => ?_⟩
    rw [applyEdit_remove, List.mem_filter, Bool.not_eq_true', ← Bool.not_eq_true,
      DefectEntry.isAt_iff]
  case clearAll => simp [applyEdit_clear]
  case clearLearned => simp [applyEdit_clear]
  case rest =>
    apply SensorIntake.frameDone_of_not_collecting
    rcases h with h | h <;> rw [h] <;> rfl
  case merge =>
    intro threshold candidates overflow hsurvey hordered hpeak horder hunlisted
    rw [SensorIntake.frameDone_of_collecting hsurvey]
    intro v judged
    have hjudged : judged = unnamedCandidates u.edits candidates :=
      List.filter_congr fun c _ => by rw [Bool.eq_iff_iff]; simp
    obtain ⟨k, hle, hlist, hpeak', hadded, hoverflow, hlength, hmem, hfull⟩ :=
      foldl_judge_joined (m := { list := u.defects, added := 0, overflow }) hordered hpeak horder
        hunlisted
    rw [← hjudged] at hle hoverflow hmem hfull
    refine ⟨hlist, hpeak', rfl, rfl, rfl, k, hle, ?_, hlength, hmem, hfull⟩
    simp only [v, mergeCandidates, hadded, hoverflow, Nat.zero_add]

end Sys2Proof.Machine

/-! PROOFS. What a step can do to the frames and the sequencer, said once as `State.Runs`: a chain
of moves, each one shared operation of Chapters 2, 4 or 5, or a change that touches neither. -/

namespace Sys2Proof.Machine

/-! ## Changes that touch neither the frames nor the sequencer -/

/-- The slot of the frame in hand of a RUNNING engine. -/
def State.inHand (s : State) : Option SlotId :=
  s.engine.run.map Run.slot

/-- Sensor Intake, the slots, the frame in hand and what the sequencer goes by are as they were. -/
structure State.Quiet (s t : State) : Prop where
  intake : t.intake = s.intake
  slots : t.slots = s.slots
  inHand : t.inHand = s.inHand
  sequencer : t.position.sequencer = s.position.sequencer
  triggerLine : t.position.triggerLine = s.position.triggerLine
  pendingTrigger : t.position.pendingTrigger = s.position.pendingTrigger
  current : t.position.current.isSome = s.position.current.isSome

section
variable {s t u : State}

theorem State.Quiet.refl (s : State) : s.Quiet s :=
  ⟨rfl, rfl, rfl, rfl, rfl, rfl, rfl⟩

theorem State.Quiet.trans (h : s.Quiet t) (k : t.Quiet u) : s.Quiet u where
  intake := k.intake.trans h.intake
  slots := k.slots.trans h.slots
  inHand := k.inHand.trans h.inHand
  sequencer := k.sequencer.trans h.sequencer
  triggerLine := k.triggerLine.trans h.triggerLine
  pendingTrigger := k.pendingTrigger.trans h.pendingTrigger
  current := k.current.trans h.current

theorem State.Quiet.latch (h : s.Quiet t) (ks : List EventKind) : s.Quiet (t.latch ks) :=
  h.trans ⟨by simp, by simp, by simp [State.inHand], by simp, by simp, by simp, by simp⟩

theorem State.setLink_quiet (s : State) (l : LinkUnit) : s.Quiet (s.setLink l) :=
  ⟨rfl, rfl, rfl, rfl, rfl, rfl, rfl⟩

theorem State.advanceTo_quiet (s : State) (t : Nat) : s.Quiet (s.advanceTo t) :=
  ⟨rfl, rfl, rfl, rfl, rfl, rfl, rfl⟩

theorem State.setViews_quiet (s : State) (v : ViewBankStore) : s.Quiet (s.setViews v) :=
  ⟨rfl, rfl, rfl, rfl, rfl, rfl, rfl⟩

theorem State.setLamps_quiet (s : State) (x : IlluminationUnit) : s.Quiet (s.setLamps x) :=
  ⟨rfl, rfl, rfl, rfl, rfl, rfl, rfl⟩

theorem State.setGuard_quiet (s : State) (g : LampProtection) : s.Quiet (s.setGuard g) :=
  ⟨rfl, rfl, rfl, rfl, rfl, rfl, rfl⟩

theorem State.takeFree_quiet (s : State) : s.Quiet s.takeFree :=
  ⟨rfl, rfl, rfl, rfl, rfl, rfl, rfl⟩

/-- The engine may change as long as the frame in hand stays in its slot. -/
theorem State.setEngine_quiet {x : WarpEngine} (h : x.run.map Run.slot = s.inHand) :
    s.Quiet (s.setEngine x) :=
  ⟨rfl, rfl, h, rfl, rfl, rfl, rfl⟩

end

/-! ## The moves -/

/-- The chains of moves: a quiet change; the record of the exposure in progress marked; a trigger
raised; an exposure ended; an AWAITING FRAME sequencer made READY, with its exposure kept or lost;
an edit queued; the survey armed; a line; a frame's end and begin; the Warp Engine's frame start and
end; RESTART; a reset. -/
inductive State.Runs : State → State → Prop
  | quiet {s t} (h : s.Quiet t) : Runs s t
  | marks (s) (f : FrameRecord → FrameRecord) : Runs s (s.markExposure f)
  | triggers (s) (cause : Cause) (tag : Int) : Runs s (s.raiseTrigger cause tag)
  | ends (s) (e : CurrentExposure) (now : Nat) :
      Runs s (s.setPosition (s.position.exposureEnded e now))
  | readies {s} (h : s.position.sequencer = .awaitingFrame) : Runs s s.becomeReady
  | loses {s} (h : s.position.sequencer = .awaitingFrame) : Runs s s.exposureLost
  | queues {s} (edit : Edit) (hroom : s.intake.edits.length < 16)
      (hsize : (applyEdit s.intake.projected edit).length ≤ max 512 s.intake.projected.length) :
      Runs s (s.setIntake { s.intake with edits := s.intake.edits ++ [edit] })
  | arms {s} (h : s.intake.survey = .idle) : Runs s s.armSurvey
  | lines {s} {i : SlotId} (h : s.intake.intake = .filling i) (pixels : List (BitVec 12)) :
      Runs s (s.fillLine i pixels)
  | endsFrame (s) : Runs s s.endFrame
  | beginsFrame {s} (h : s.intake.intake = .waiting) : Runs s s.beginFrame
  | startsWarp {s} {t : FrameTake} (h : s.nextFrame = some t) : Runs s (s.startFrame t)
  | endsWarp {s} {r : Run} (h : s.inHand = some r.slot) (record : FrameRecord) :
      Runs s (s.endWarp r record)
  | restarts (s) : Runs s s.restarted
  | resets {t} (s) (h : State.reset.Quiet t) : Runs s t
  | trans {s t u} (h : Runs s t) (k : Runs t u) : Runs s u

theorem State.Runs.refl (s : State) : s.Runs s :=
  .quiet (.refl s)

/-- A change of the Position and Trigger Unit that leaves what the sequencer goes by. -/
theorem State.Runs.setPosition (s : State) {u : PositionUnit}
    (hsequencer : u.sequencer = s.position.sequencer := by rfl)
    (hline : u.triggerLine = s.position.triggerLine := by rfl)
    (hpending : u.pendingTrigger = s.position.pendingTrigger := by rfl)
    (hcurrent : u.current.isSome = s.position.current.isSome := by rfl) :
    s.Runs (s.setPosition u) :=
  .quiet ⟨rfl, rfl, rfl, hsequencer, hline, hpending, hcurrent⟩

/-! ## Lamp Protection (Chapter 7) -/

theorem State.detect_runs (s : State) (i : Fin 8) : s.Runs (s.detect i) := by
  simp only [State.detect]
  exact .trans (.marks s _) (.quiet (.latch ((State.setLamps_quiet _ _).trans
    (State.setGuard_quiet _ _)) _))

theorem State.closeSense_runs (s : State) (i : Fin 8) (peakCurrent voltage : Nat) :
    s.Runs (s.closeSense i peakCurrent voltage) := by
  simp only [State.closeSense]
  split
  · exact .trans (.quiet (s.setGuard_quiet _)) (State.detect_runs _ _)
  · exact .quiet (s.setGuard_quiet _)

theorem State.cutWindow_runs (s : State) : s.Runs s.cutWindow := by
  unfold State.cutWindow
  split
  · exact .refl s
  · exact .trans (.quiet (s.setGuard_quiet _)) (.marks _ _)

theorem State.enterThermal_runs (s : State) (thermal : Thermal) :
    s.Runs (s.enterThermal thermal) := by
  have hlamps (b : Prop) [Decidable b] (t : State) :
      t.Runs (if b then t else t.setLamps t.lamps.abortTunes) := by
    split
    · exact .refl t
    · exact .quiet (t.setLamps_quiet _)
  have hjudged (t : State) (ks : List EventKind) :
      t.Runs ((t.setGuard (t.guard.judged t.params)).latch ks) :=
    .quiet (.latch (t.setGuard_quiet _) _)
  refine .trans (.trans ?_ (hlamps (thermal = .normal) _)) (hjudged _ _)
  split
  · exact .trans (.quiet (s.setGuard_quiet _)) (State.cutWindow_runs _)
  · exact .quiet (s.setGuard_quiet _)

theorem State.sampled_runs (s : State) (temperature : Int) : s.Runs (s.sampled temperature) := by
  simp only [State.sampled]
  split
  · exact .quiet (s.setGuard_quiet _)
  · exact .trans (.quiet (s.setGuard_quiet _)) (State.enterThermal_runs _ _)

/-! ## Positions, triggers and exposures (Chapter 5) -/

theorem State.raiseTime_runs (s : State) : s.Runs s.raiseTime :=
  .trans (.setPosition s) (.triggers _ _ _)

theorem State.raiseIfDue_runs (s : State) : s.Runs s.raiseIfDue := by
  unfold State.raiseIfDue
  split
  · exact s.raiseTime_runs
  · exact .refl s

theorem State.latch_runs (s : State) (ks : List EventKind) : s.Runs (s.latch ks) :=
  .quiet (.latch (.refl s) ks)

theorem State.enterPark_runs (s : State) : s.Runs s.enterPark :=
  .trans (.trans (.setPosition s) (State.latch_runs _ _)) (State.raiseIfDue_runs _)

theorem State.parkIfPassed_runs (s : State) : s.Runs s.parkIfPassed := by
  unfold State.parkIfPassed
  split
  · exact s.enterPark_runs
  · exact .refl s

theorem State.enterDwell_runs (s : State) : s.Runs s.enterDwell :=
  .trans (.trans (.trans (.setPosition s) (State.latch_runs _ _)) (State.raiseIfDue_runs _))
    (State.parkIfPassed_runs _)

theorem State.dwellIfPassed_runs (s : State) : s.Runs s.dwellIfPassed := by
  unfold State.dwellIfPassed
  split
  · exact s.enterDwell_runs
  · exact .refl s

theorem State.raiseDistance_runs (s : State) (target : Int) : s.Runs (s.raiseDistance target) :=
  .trans (.setPosition s) (.triggers _ _ _)

theorem State.distanceTest_runs (s : State) : s.Runs s.distanceTest := by
  unfold State.distanceTest
  split
  · exact s.raiseDistance_runs _
  · split
    · exact s.raiseDistance_runs _
    · exact .refl s

theorem State.creepTest_runs (s : State) : s.Runs s.creepTest := by
  unfold State.creepTest
  split
  · exact s.raiseDistance_runs _
  · split
    · exact s.raiseDistance_runs _
    · exact .refl s

theorem State.wakeTest_runs (s : State) : s.Runs s.wakeTest := by
  unfold State.wakeTest
  split
  · exact .trans (.trans (.setPosition s) (State.creepTest_runs _)) (State.latch_runs _ _)
  · exact .refl s

theorem State.startWaitingProbe_quiet (s : State) : s.Quiet s.startWaitingProbe := by
  unfold State.startWaitingProbe
  split
  · exact s.setGuard_quiet _
  · exact .refl s

/-- What follows the end of an exposure starts from an AWAITING FRAME sequencer (R102). -/
theorem State.afterExposure_runs {s : State} (h : s.position.sequencer = .awaitingFrame)
    (closed : Bool) : s.Runs (s.afterExposure closed) := by
  have hprobe := s.startWaitingProbe_quiet
  unfold State.afterExposure
  split
  · split
    · unfold State.probeMeetsExposure
      split
      · exact .trans (.quiet (s.takeFree_quiet.trans (State.setGuard_quiet _ _))) (.readies h)
      · exact .trans (.quiet s.takeFree_quiet) (.readies h)
    · exact .trans (.quiet hprobe) (.readies (hprobe.sequencer.trans h))
  · exact .quiet hprobe

/-- Both timeouts run while AWAITING FRAME alone (R104). -/
theorem PositionUnit.awaiting_of_sensorDue {u : PositionUnit} {due : Nat}
    (h : u.sensorDue = some due) : u.sequencer = .awaitingFrame := by
  unfold PositionUnit.sensorDue at h
  split at h <;> simp_all

theorem PositionUnit.awaiting_of_readoutDue {u : PositionUnit} {due : Nat}
    (h : u.readoutDue = some due) : u.sequencer = .awaitingFrame := by
  unfold PositionUnit.readoutDue at h
  split at h <;> simp_all

/-! ## The frame in hand (Chapter 2) -/

section
variable {s : State} {r : Run}

theorem State.claimPlaces_quiet (h : s.inHand = some r.slot) : s.Quiet (s.claimPlaces r).1 := by
  unfold State.claimPlaces
  split
  · exact .refl s
  · split
    · exact State.setEngine_quiet h.symm
    · exact State.setEngine_quiet h.symm

theorem State.placeVideo_quiet (s : State) (cells : List Cell) : s.Quiet (s.placeVideo cells) :=
  ⟨rfl, rfl, rfl, rfl, rfl, rfl, rfl⟩

theorem State.produce_quiet (h : s.inHand = some r.slot) : s.Quiet (s.produce r) := by
  have hrun {x : WarpEngine} (cells : List Cell) (hx : x.run.map Run.slot = some r.slot) :
      s.Quiet ((s.placeVideo cells).setEngine x) :=
    (s.placeVideo_quiet cells).trans (State.setEngine_quiet (hx.trans h.symm))
  unfold State.produce
  split
  · exact hrun _ rfl
  · split
    · exact .refl s
    · exact hrun _ rfl
  · exact .refl s

theorem State.endStall_quiet (s : State) : s.Quiet s.endStall := by
  unfold State.endStall
  split
  · exact .refl s
  · rename_i r hr
    split
    · exact State.setEngine_quiet (by simp [State.inHand, hr])
    · exact .refl s

end

/-! ## Cells, ports and sending (Chapters 8 and 9) -/

theorem State.count_quiet (s : State) (f : Counters → Counters) : s.Quiet (s.count f) :=
  s.setLink_quiet _

theorem State.forwardCommand_quiet (s : State) (c : Cell) : s.Quiet (s.forwardCommand c) := by
  unfold State.forwardCommand
  split
  · exact s.setLink_quiet _
  · split
    · exact .refl s
    · split
      · exact s.setLink_quiet _
      · exact s.count_quiet _

theorem State.receiveUpward_quiet (s : State) (c : Cell) : s.Quiet (s.receiveUpward c) := by
  unfold State.receiveUpward
  split
  · split
    · exact s.setLink_quiet _
    · exact s.count_quiet _
  · exact .refl s

theorem State.takeRollCall_quiet (s : State) (c : Cell) : s.Quiet (s.takeRollCall c) := by
  unfold State.takeRollCall
  split
  · unfold State.overlongRollCall
    split
    · exact s.setLink_quiet _
    · exact s.count_quiet _
  · split
    · unfold State.passRollCall
      split
      · exact s.setLink_quiet _
      · exact s.count_quiet _
    · unfold State.turnRollCall
      split
      · exact s.setLink_quiet _
      · exact s.count_quiet _

theorem State.portDown_quiet (s : State) (p : PortId) (midCell : Bool) :
    s.Quiet (s.portDown p midCell) := by
  unfold State.portDown
  split
  · exact (s.setLink_quiet _).latch _
  · exact .refl s

theorem State.receiveSymbol_quiet (s : State) (p : PortId) (h : Bool) :
    s.Quiet (s.receiveSymbol p h) := by
  unfold State.receiveSymbol
  split
  · exact s.setLink_quiet _
  · exact .refl s

theorem State.chooseManagement_quiet (s : State) (c : Cell) (rest : List Cell) :
    s.Quiet (s.chooseManagement c rest) := by
  unfold State.chooseManagement State.payStatus
  split
  · exact s.setLink_quiet _
  · exact s.setLink_quiet _

theorem State.chooseOwn_quiet (s : State) (c : Cell) (rest : List Cell) :
    s.Quiet (s.chooseOwn c rest) :=
  (s.setLink_quiet _).trans (State.endStall_quiet _)

theorem State.chooseVideo_quiet (s : State) : s.Quiet s.chooseVideo := by
  unfold State.chooseVideo
  split
  · exact s.chooseOwn_quiet _ _
  · exact s.setLink_quiet _
  · exact s.setLink_quiet _
  · exact s.chooseOwn_quiet _ _
  · exact s.setLink_quiet _
  · exact s.setLink_quiet _

/-! ## Commands -/

section
variable {s : State}

theorem setChoice_quiet {α : Type} {identifier : Byte} {value : Word} {choice : Nat → Option α}
    {store : α → State} (h : ∀ x, s.Quiet (store x)) :
    s.Quiet (setChoice identifier value choice store s).2 := by
  unfold setChoice
  split
  · exact .refl s
  · exact h _

theorem ownSetDuty_quiet (segment : Byte) (value : Word) (s : State) :
    s.Quiet (ownSetDuty segment value s).2 := by
  unfold ownSetDuty
  split
  · exact .refl s
  · exact (s.setLamps_quiet _).latch _

theorem ownProbe_quiet (s : State) : s.Quiet (ownProbe s).2 := by
  unfold ownProbe
  split
  · exact .refl s
  · exact .refl s
  · split
    · exact s.setGuard_quiet _
    · exact s.setGuard_quiet _

theorem decodeAnswer_quiet (number : Byte) (code : ReplyCode) (s : State) :
    s.Quiet (decodeAnswer number code s).2 := by
  unfold decodeAnswer
  split
  · exact .refl s
  · exact .refl s

/-! The commands of Chapter 3 set the View Bank Store alone. -/

theorem ownTableOpen_quiet (bank : Byte) (width height fill : BitVec 16) (label : List Byte)
    (s : State) : s.Quiet (ownTableOpen bank width height fill label s).2 := by
  unfold ownTableOpen
  split
  · exact .refl s
  · split
    · exact .refl s
    · exact .refl s
    · split
      · exact .refl s
      · exact s.setViews_quiet _
    · exact s.setViews_quiet _
    · exact s.setViews_quiet _

theorem ownTableData_quiet (used : Byte) (bank part : BitVec 4) (number : BitVec 16)
    (entries : List Byte) (s : State) :
    s.Quiet (ownTableData used bank part number entries s).2 := by
  unfold ownTableData
  split
  · unfold loadSegment
    split
    · exact .refl s
    · split
      · exact .refl s
      · split
        · exact .refl s
        · exact s.setViews_quiet _
  · exact .refl s
  · exact .refl s

theorem ownTableClose_quiet (bank : Byte) (s : State) : s.Quiet (ownTableClose bank s).2 := by
  unfold ownTableClose
  split
  · exact .refl s
  · split
    · exact s.setViews_quiet _
    · exact .refl s

theorem ownCommitView_quiet (bank : Byte) (s : State) : s.Quiet (ownCommitView bank s).2 := by
  unfold ownCommitView
  split
  · exact .refl s
  · split
    · exact s.setViews_quiet _
    · exact s.setViews_quiet _
    · exact .refl s
    · exact .refl s
    · exact .refl s

/-! The commands of Chapter 4 (R73 to R76, R79). -/

theorem SensorIntake.editsFull_eq_false_iff (u : SensorIntake) :
    u.editsFull = false ↔ u.edits.length < 16 :=
  decide_eq_false_iff_not.trans Nat.not_le

/-- An edit joins a queue that is not full, and makes the projected list longer only below 512
entries. -/
theorem acceptEdit_runs {edit : Edit} (hfull : ¬s.intake.editsFull = true)
    (hsize : (applyEdit s.intake.projected edit).length ≤ max 512 s.intake.projected.length) :
    s.Runs (acceptEdit edit s).2 :=
  .queues edit (by rwa [Bool.not_eq_true, SensorIntake.editsFull_eq_false_iff] at hfull) hsize

theorem ownDefectAdd_runs (row : BitVec 10) (column : BitVec 11) (method : BitVec 2) (s : State) :
    s.Runs (ownDefectAdd row column method s).2 := by
  unfold ownDefectAdd
  split
  · exact .refl s
  · split
    · exact .refl s
    · split
      · exact .refl s
      · split
        · exact .refl s
        · split
          · exact .refl s
          · rename_i hfull hlisted hsize
            rw [Bool.not_eq_true, hasDefect_eq_false_iff] at hlisted
            refine acceptEdit_runs hfull ?_
            rw [applyEdit_add, length_insertDefect hlisted]
            exact Nat.le_trans (Nat.lt_of_not_le hsize) (Nat.le_max_left ..)

theorem ownDefectRemove_runs (row : BitVec 10) (column : BitVec 11) (s : State) :
    s.Runs (ownDefectRemove row column s).2 := by
  unfold ownDefectRemove
  split
  · exact .refl s
  · split
    · exact .refl s
    · split
      · rename_i hfull _
        exact acceptEdit_runs hfull ((length_applyEdit_le _ (by simp)).trans (Nat.le_max_right ..))
      · exact .refl s

theorem ownDefectClear_runs (originFilter : Byte) (s : State) :
    s.Runs (ownDefectClear originFilter s).2 := by
  unfold ownDefectClear
  split
  · exact .refl s
  · split
    · exact .refl s
    · rename_i hfull
      exact acceptEdit_runs hfull ((length_applyEdit_le _ (by simp)).trans (Nat.le_max_right ..))

theorem ownDarkSurvey_runs (s : State) : s.Runs (ownDarkSurvey s).2 := by
  unfold ownDarkSurvey
  split
  · exact .arms ‹_›
  · exact .refl s
  · exact .refl s

/-- A numbered command runs the state as its own rule says. -/
theorem ownerOf_runs {i : Instr} {number : Byte} {owner : State → Answer × State}
    (h : ownerOf i = some (number, owner)) (s : State) : s.Runs (owner s).2 := by
  have hparams (p : Parameters) : s.Quiet (s.setParams p) := ⟨rfl, rfl, rfl, rfl, rfl, rfl, rfl⟩
  cases i with
  | readIdentity | readStatus | readCounters | readZoneStats | readBankInfo | readTableVerdict
  | readDefectEntries | readParameter | readProbeResult | readTemperature => cases h; exact .refl s
  | setSourceWidth | setSourceHeight | setBlackLevel | setDarkThreshold | setExposure | setBlurLimit
  | setBrightnessTarget | setTuneBand | setReferenceBeta | setTuneHoldoff | setEventMask =>
    cases h; exact .quiet (hparams _)
  | setTriggerStep => cases h; exact .trans (.quiet (hparams _)) (.setPosition _)
  | setDwellTimeout => cases h; exact .trans (.quiet (hparams _)) (State.dwellIfPassed_runs _)
  | setDwellInterval => cases h; exact .trans (.quiet (hparams _)) (State.raiseIfDue_runs _)
  | setParkTimeout => cases h; exact .trans (.quiet (hparams _)) (State.parkIfPassed_runs _)
  | setParkInterval => cases h; exact .trans (.quiet (hparams _)) (State.raiseIfDue_runs _)
  | setWakeDistance => cases h; exact .trans (.quiet (hparams _)) (State.wakeTest_runs _)
  | setAutoRetune | setReportMode => cases h; exact .quiet (setChoice_quiet fun _ => hparams _)
  | setLedFaultResponse => cases h; exact .quiet (setChoice_quiet fun _ => hparams _)
  | setLedFaultReport | setThermalReport =>
    cases h; exact .quiet (setChoice_quiet fun _ => (hparams _).trans (State.setGuard_quiet _ _))
  | setLedCycle | reseed => cases h; exact .quiet (s.setLamps_quiet _)
  | setDuty => cases h; exact .quiet (ownSetDuty_quiet ..)
  | tune => cases h; exact .quiet ((s.setLamps_quiet _).latch _)
  | tableOpen => cases h; exact .quiet (ownTableOpen_quiet ..)
  | tableData => cases h; exact .quiet (ownTableData_quiet ..)
  | tableClose => cases h; exact .quiet (ownTableClose_quiet ..)
  | commitView => cases h; exact .quiet (ownCommitView_quiet ..)
  | rawView => cases h; exact .quiet (s.setViews_quiet _)
  | defectAdd => cases h; exact ownDefectAdd_runs ..
  | defectRemove => cases h; exact ownDefectRemove_runs ..
  | defectClear => cases h; exact ownDefectClear_runs ..
  | darkSurvey => cases h; exact ownDarkSurvey_runs s
  | probe => cases h; exact .quiet (ownProbe_quiet s)
  | snap => cases h; exact .triggers ..
  | zeroOdometer => cases h; exact .trans (.setPosition s) (State.wakeTest_runs _)
  | clearFaults => cases h; exact .quiet (s.setGuard_quiet _)
  | ackReset => cases h; exact .quiet (s.setLink_quiet _)
  | _ => cases h

/-! ## Consumed commands and command cells -/

/-- A consumed command runs the state as its owner does, or is discarded and counted (R167). -/
theorem consume_runs {tag number : Byte} {owner : State → Answer × State}
    (h : ∀ u : State, u.Runs (owner u).2) (s : State) : s.Runs (consume tag number owner s) := by
  unfold consume
  split
  · exact .trans (.trans (.quiet (s.setLink_quiet _)) (h s.holdReplyPlace))
      (.quiet (State.setLink_quiet _ _))
  · exact .quiet (s.count_quiet _)

theorem State.executeRestart_runs (s : State) (tag : Byte) : s.Runs (s.executeRestart tag) :=
  .trans (.restarts s) (.quiet (State.setLink_quiet _ _))

theorem State.executeCell_runs (s : State) (c : Cell) : s.Runs (s.executeCell c) := by
  unfold State.executeCell
  split
  · exact s.executeRestart_runs _
  · split
    · exact consume_runs (ownerOf_runs ‹_›) s
    · exact .refl s
  · exact consume_runs (fun u => .quiet (decodeAnswer_quiet _ _ u)) s

theorem State.routeCommand_runs (s : State) (c : Cell) : s.Runs (s.routeCommand c) := by
  unfold State.routeCommand
  split
  · exact .trans (s.executeCell_runs c) (.quiet (State.forwardCommand_quiet _ c))
  · split
    · exact s.executeCell_runs c
    · exact .quiet (s.forwardCommand_quiet c)

theorem State.receiveCommand_runs (s : State) (c : Cell) : s.Runs (s.receiveCommand c) := by
  unfold State.receiveCommand
  split
  · split
    · exact s.routeCommand_runs c
    · exact .quiet (s.count_quiet _)
  · exact .refl s

theorem State.acceptCell_runs (s : State) (p : PortId) (c : Cell) : s.Runs (s.acceptCell p c) := by
  unfold State.acceptCell
  split
  · exact .quiet (s.setLink_quiet _)
  · split
    · exact s.routeCommand_runs c
    · exact .quiet (s.takeRollCall_quiet c)

/-! ## Every command and event -/

/-- After a completed frame Sensor Intake is WAITING. -/
@[simp] theorem SensorIntake.frameDone_intake (u : SensorIntake) (q : BitVec 16) :
    (u.frameDone q).intake = .waiting := by
  unfold SensorIntake.frameDone
  split <;> rfl

/-- After a frame's end no frame is in progress on the port (R64). -/
theorem State.endFrame_waiting (s : State) : s.endFrame.intake.intake = .waiting := by
  unfold State.endFrame
  split
  · assumption
  · unfold State.endFilling
    split
    · rfl
    · split
      · simp [State.voidFrame, SensorIntake.frameVoid]
      · simp [State.completeFrame]
  · simp only [State.endPassing]
    split <;> simp

theorem State.execItemProduction_runs (s : State) :
    ∃ t, execItemProduction s = .next t ∧ s.Runs t := by
  refine ⟨_, rfl, ?_⟩
  split
  · exact .refl s
  · rename_i r hr
    have hslot : s.inHand = some r.slot := by simp [State.inHand, hr]
    have hclaim := s.claimPlaces_quiet hslot
    split
    · exact .refl s
    · split
      · exact .quiet (hclaim.trans (State.produce_quiet (hclaim.inHand.trans hslot)))
      · exact .quiet hclaim

theorem State.execWarpFrameEnd_runs (s : State) :
    ∃ t, execWarpFrameEnd s = .next t ∧ s.Runs t := by
  refine ⟨_, rfl, ?_⟩
  split
  · exact .refl s
  · rename_i r hr
    have hslot : s.inHand = some r.slot := by simp [State.inHand, hr]
    have hclaim := s.claimPlaces_quiet hslot
    split
    · split
      · exact .trans (.quiet hclaim) (.endsWarp (hclaim.inHand.trans hslot) _)
      · exact .quiet hclaim
    all_goals exact .refl s

theorem State.execExposureEnd_runs (s : State) :
    ∃ t, execExposureEnd s = .next t ∧ s.Runs t := by
  refine ⟨_, rfl, ?_⟩
  split
  · exact .refl s
  · exact .trans (.trans (.quiet (s.advanceTo_quiet _)) (.trans (.ends _ _ _)
      (.quiet (State.setGuard_quiet _ _)))) (State.afterExposure_runs rfl _)

theorem State.execSensorTimeout_runs (s : State) :
    ∃ t, execSensorTimeout s = .next t ∧ s.Runs t := by
  refine ⟨_, rfl, ?_⟩
  split
  · exact .refl s
  · exact .trans (.quiet (s.advanceTo_quiet _)) (.trans (.setPosition _)
      (.loses (PositionUnit.awaiting_of_sensorDue ‹_›)))

theorem State.execReadoutLimit_runs (s : State) :
    ∃ t, execReadoutLimit s = .next t ∧ s.Runs t := by
  refine ⟨_, rfl, ?_⟩
  split
  · exact .refl s
  · exact .trans (.quiet (s.advanceTo_quiet _)) (.loses (PositionUnit.awaiting_of_readoutDue ‹_›))

/-- What no owner executes: the events, the command cells, RESTART and the resets. -/
theorem exec_runs_of_ownerOf_none {i : Instr} (ho : ownerOf i = none) (s : State) :
    ∃ t, exec i s = .next t ∧ s.Runs t := by
  cases i with
  | powerOnReset | lineReset =>
    refine ⟨_, rfl, .trans (.resets s ?_) (State.sampled_runs _ _)⟩
    exact ⟨rfl, rfl, rfl, rfl, rfl, rfl, rfl⟩
  | restart => exact ⟨_, rfl, s.executeRestart_runs _⟩
  | commandCell => exact ⟨_, rfl, s.receiveCommand_runs _⟩
  | cellError p =>
    refine ⟨_, rfl, ?_⟩
    split
    · split
      · exact .quiet (s.count_quiet _)
      · exact s.acceptCell_runs p _
    · exact .refl s
  | tableCheckCompletion b =>
    refine ⟨_, rfl, ?_⟩
    split
    · exact .refl s
    · exact .quiet ((s.setViews_quiet _).latch _)
  | rollCall =>
    refine ⟨_, rfl, ?_⟩
    split
    · split
      · exact .quiet (s.takeRollCall_quiet _)
      · exact .quiet (s.count_quiet _)
    · exact .refl s
  | upwardCellReceipt => exact ⟨_, rfl, .quiet (s.receiveUpward_quiet _)⟩
  | hold | go => exact ⟨_, rfl, .quiet (s.receiveSymbol_quiet _ _)⟩
  | portUp =>
    refine ⟨_, rfl, ?_⟩
    split
    · exact .refl s
    · exact .quiet ((s.setLink_quiet _).latch _)
  | portLockLoss | portSymbolTimeout => exact ⟨_, rfl, .quiet (s.portDown_quiet _ _)⟩
  | tetherArbiterChoice =>
    refine ⟨_, rfl, ?_⟩
    split
    · split
      · exact .quiet (s.chooseManagement_quiet _ _)
      · exact .quiet s.chooseVideo_quiet
    · exact .quiet (s.setLink_quiet _)
  | chainOutboundSend =>
    refine ⟨_, rfl, ?_⟩
    split
    · split
      · exact .quiet (s.setLink_quiet _)
      · exact .quiet (s.setLink_quiet _)
    · exact .quiet (s.setLink_quiet _)
  | frameBegin => exact ⟨_, rfl, .trans (.endsFrame s) (.beginsFrame s.endFrame_waiting)⟩
  | line pixels =>
    refine ⟨_, rfl, ?_⟩
    split
    · exact .lines ‹_› pixels
    · exact .refl s
    · exact .refl s
  | frameEnd => exact ⟨_, rfl, .endsFrame s⟩
  | warpFrameStart =>
    refine ⟨_, rfl, ?_⟩
    split
    · exact .refl s
    · exact .startsWarp ‹_›
  | itemProduction => exact s.execItemProduction_runs
  | warpFrameEnd => exact s.execWarpFrameEnd_runs
  | odometerCount =>
    refine ⟨_, rfl, ?_⟩
    split
    · exact .trans (.setPosition s) (State.distanceTest_runs _)
    · exact .trans (.setPosition s) (State.wakeTest_runs _)
  | odoGlitch => exact ⟨_, rfl, .trans (.setPosition s) (.quiet (State.count_quiet _ _))⟩
  | speedWindow => exact ⟨_, rfl, .trans (.quiet (s.advanceTo_quiet _)) (.setPosition _)⟩
  | dwellTimer =>
    refine ⟨_, rfl, ?_⟩
    split
    · exact .trans (.quiet (s.advanceTo_quiet _)) (State.enterDwell_runs _)
    · exact .refl s
  | parkTimer =>
    refine ⟨_, rfl, ?_⟩
    split
    · exact .trans (.quiet (s.advanceTo_quiet _)) (State.enterPark_runs _)
    · exact .refl s
  | timeTrigger =>
    refine ⟨_, rfl, ?_⟩
    split
    · exact .refl s
    · exact .trans (.quiet (s.advanceTo_quiet _)) (State.raiseTime_runs _)
  | exposureEnd => exact s.execExposureEnd_runs
  | sensorTimeout => exact s.execSensorTimeout_runs
  | readoutLimit => exact s.execReadoutLimit_runs
  | senseWindowClose =>
    refine ⟨_, rfl, ?_⟩
    split
    · exact .refl s
    · exact .trans (.quiet (s.advanceTo_quiet _)) (State.closeSense_runs _ _ _ _)
  | overcurrent =>
    refine ⟨_, rfl, ?_⟩
    split
    · exact .trans (.quiet (s.setGuard_quiet _)) (State.detect_runs _ _)
    · exact .refl s
  | thermalSample =>
    exact ⟨_, rfl, .trans (.quiet ((s.advanceTo_quiet _).trans (State.setGuard_quiet _ _)))
      (State.sampled_runs _ _)⟩
  | probeCompletion =>
    refine ⟨_, rfl, ?_⟩
    split
    · exact .quiet (((s.advanceTo_quiet _).trans (State.setGuard_quiet _ _)).latch _)
    · exact .refl s
  | _ => cases ho

/-- A command or event runs the state along a chain of moves. -/
theorem exec_runs (i : Instr) (s : State) : ∃ t, exec i s = .next t ∧ s.Runs t := by
  cases ho : ownerOf i with
  | none => exact exec_runs_of_ownerOf_none ho s
  | some owned =>
    obtain ⟨tag, hexec⟩ := exec_of_ownerOf ho s
    exact ⟨_, hexec, consume_runs (ownerOf_runs ho) s⟩

/-- A step runs the state along a chain of moves. -/
theorem step_runs {s t : State} (h : step s = .next t) : s.Runs t := by
  cases hp : s.pending with
  | nil =>
    simp only [step, hp, Host.Outcome.next.injEq] at h
    subst h
    exact .quiet (s.advanceTo_quiet _)
  | cons c rest =>
    obtain ⟨u, hexec, hruns⟩ := exec_runs c { s with pending := rest }
    simp only [step, hp, hexec, Host.Outcome.next.injEq] at h
    subst h
    refine .trans (.quiet ?_) hruns
    exact ⟨rfl, rfl, rfl, rfl, rfl, rfl, rfl⟩

end

end Sys2Proof.Machine

/-! PROOFS. Every move keeps the slots in agreement with Sensor Intake, the ready order and the Warp
Engine. -/

namespace Sys2Proof.Machine

/-! ## The pool as a frame completes and as it is taken (R22, R66) -/

@[simp] theorem SlotPool.readyOrder_makeReady (p : SlotPool) (i : SlotId) (x : Slot) :
    (p.makeReady i x).readyOrder = p.readyOrder ++ [i] := rfl

theorem SlotPool.get_makeReady (p : SlotPool) (i j : SlotId) (x : Slot) :
    (p.makeReady i x).get j = (p.set i x).get j := by
  cases j <;> rfl

@[simp] theorem SlotPool.readyOrder_takeReady (p : SlotPool) (i : SlotId) (rest : List SlotId) :
    (p.takeReady i rest).readyOrder = rest := rfl

theorem SlotPool.get_takeReady (p : SlotPool) (i j : SlotId) (rest : List SlotId) :
    (p.takeReady i rest).get j = (p.set i { p.get i with state := .warping }).get j := by
  cases j <;> rfl

@[simp] theorem Slot.mapRecord_id (x : Slot) : x.mapRecord id = x := by
  simp [Slot.mapRecord]

theorem Slot.mapRecord_record_eq_none (x : Slot) (f : FrameRecord → FrameRecord) :
    (x.mapRecord f).record = none ↔ x.record = none := Option.map_eq_none_iff

/-! ## What the operations of Chapters 2, 4 and 5 make of the frames -/

section
variable (s : State)

/-- Marking the exposure in progress changes a record of a slot at most. -/
theorem State.markExposure_get (f : FrameRecord → FrameRecord) (i : SlotId) :
    ∃ g, (s.markExposure f).slots.get i = (s.slots.get i).mapRecord g := by
  rcases s.markExposure_cases f with h | ⟨_, _, h⟩ | ⟨k, h⟩
  · exact ⟨id, by rw [h, Slot.mapRecord_id]⟩
  · exact ⟨id, by rw [h, State.setPosition_slots, Slot.mapRecord_id]⟩
  · rw [h, State.setSlots_slots, SlotPool.get_set]
    split
    · subst i
      exact ⟨f, rfl⟩
    · exact ⟨id, (Slot.mapRecord_id _).symm⟩

@[simp] theorem State.markExposure_readyOrder (f : FrameRecord → FrameRecord) :
    (s.markExposure f).slots.readyOrder = s.slots.readyOrder := by
  rcases s.markExposure_cases f with h | ⟨_, _, h⟩ | ⟨k, h⟩ <;> simp [h]

/-- A line is ignored, counted at most, or becomes a row of the slot that fills (R65). -/
theorem State.fillLine_cases (i : SlotId) (pixels : List (BitVec 12)) :
    s.Quiet (s.fillLine i pixels)
      ∨ (s.writeRow i (lineRow (s.slots.get i) pixels)).Quiet (s.fillLine i pixels) := by
  unfold State.fillLine
  split
  · exact .inl (.refl s)
  · split
    · exact .inl (s.count_quiet _)
    · split
      · exact .inr (.refl _)
      · exact .inr (State.count_quiet _ _)

theorem State.completeFrame_slots (i : SlotId) (r : FrameRecord) :
    (s.completeFrame i r).slots
      = s.slots.makeReady i ((s.slots.get i).completed s.intake.defects r) := by
  simp [State.completeFrame]

theorem State.completeFrame_intake (i : SlotId) (r : FrameRecord) :
    (s.completeFrame i r).intake = s.intake.frameDone r.sequence := by
  simp [State.completeFrame]

theorem State.completeFrame_inHand (i : SlotId) (r : FrameRecord) :
    (s.completeFrame i r).inHand = s.inHand := by
  simp [State.completeFrame, State.inHand]

theorem State.voidFrame_slots (i : SlotId) (r : FrameRecord) :
    (s.voidFrame i r).slots = s.slots.set i Slot.freed := by
  simp [State.voidFrame]

theorem State.voidFrame_intake (i : SlotId) (r : FrameRecord) :
    (s.voidFrame i r).intake = s.intake.frameVoid := by
  simp [State.voidFrame]

theorem State.voidFrame_inHand (i : SlotId) (r : FrameRecord) :
    (s.voidFrame i r).inHand = s.inHand := by
  simp [State.voidFrame, State.inHand]

/-- The end of a frame that passes leaves Sensor Intake WAITING and nothing of the frames changed.
-/
theorem State.endPassing_frames (kind : PassKind) :
    (s.endPassing kind).slots = s.slots
      ∧ (s.endPassing kind).intake = { s.intake with intake := .waiting }
      ∧ (s.endPassing kind).inHand = s.inHand := by
  simp only [State.endPassing, State.inHand]
  split <;> simp

theorem State.startFrame_slots (t : FrameTake) :
    (s.startFrame t).slots = s.slots.takeReady t.slot t.rest := by
  simp [State.startFrame]

/-- The slot taken is WARPING, the others are as they were (R22). -/
theorem State.startFrame_get (t : FrameTake) (i : SlotId) :
    (s.startFrame t).slots.get i
      = if i = t.slot then { s.slots.get t.slot with state := .warping } else s.slots.get i := by
  rw [State.startFrame_slots, SlotPool.get_takeReady, SlotPool.get_set]

theorem State.startFrame_intake (t : FrameTake) : (s.startFrame t).intake = s.intake := by
  simp [State.startFrame]

theorem State.startFrame_inHand (t : FrameTake) : (s.startFrame t).inHand = some t.slot := by
  simp [State.startFrame, State.inHand, State.startedEngine]

theorem State.endWarp_slots (r : Run) (record : FrameRecord) :
    (s.endWarp r record).slots = s.slots.set r.slot Slot.freed := by
  simp [State.endWarp, State.frameEndStatus, State.handFrame, State.placeVideo]

theorem State.endWarp_intake (r : Run) (record : FrameRecord) :
    (s.endWarp r record).intake = s.intake := by
  simp [State.endWarp, State.frameEndStatus, State.handFrame, State.placeVideo]

theorem State.endWarp_inHand (r : Run) (record : FrameRecord) :
    (s.endWarp r record).inHand = none := by
  simp [State.endWarp, State.inHand, WarpEngine.ended]

theorem State.endWarp_position (r : Run) (record : FrameRecord) :
    (s.endWarp r record).position = s.position := by
  simp [State.endWarp, State.frameEndStatus, State.handFrame, State.placeVideo]

/-- After a completed frame the survey is IDLE, or ARMED as before (R81). -/
theorem SensorIntake.frameDone_survey (u : SensorIntake) (q : BitVec 16) :
    (u.frameDone q).survey = if u.survey.isCollecting then .idle else u.survey := by
  cases h : u.survey <;> simp [SensorIntake.frameDone, h, Survey.isCollecting]

end

/-- The frame an IDLE engine would start is the first of the ready order (R22). -/
theorem State.nextFrame_eq_some {s : State} {t : FrameTake} (h : s.nextFrame = some t) :
    s.engine.run = none ∧ s.slots.readyOrder = t.slot :: t.rest
      ∧ (s.slots.get t.slot).record = some t.record := by
  unfold State.nextFrame at h
  split at h
  · split at h
    · cases h
      exact ⟨‹_›, ‹_›, ‹_›⟩
    all_goals cases h
  all_goals cases h

/-- The lowest-numbered FREE slot is FREE, and no lower one is (R61 case a). -/
theorem SlotPool.lowestFree_free {p : SlotPool} {i : SlotId} (h : p.lowestFree = some i) :
    (p.get i).state = .free := by
  unfold SlotPool.lowestFree at h
  split at h
  · cases h
    assumption
  · split at h
    · cases h
      assumption
    · split at h
      · cases h
        assumption
      · cases h

/-! ## Slots in agreement (R59, R60) -/

/-- `State.SlotsSound` at one slot. -/
structure State.SlotAgrees (s : State) (i : SlotId) : Prop where
  filling : (s.slots.get i).state = .filling ↔ s.intake.intake = .filling i
  warping : (s.slots.get i).state = .warping ↔ s.inHand = some i
  ready : (s.slots.get i).state = .ready ↔ i ∈ s.slots.readyOrder
  free : (s.slots.get i).state = .free ↔ (s.slots.get i).record = none

theorem State.slotsSound_iff (s : State) :
    s.SlotsSound ↔ (∀ i, s.SlotAgrees i) ∧ s.slots.readyOrder.Nodup := by
  have hhand (i : SlotId) : (∃ r, s.engine.run = some r ∧ r.slot = i) ↔ s.inHand = some i := by
    simp [State.inHand]
  simp only [State.SlotsSound, hhand]
  exact ⟨fun ⟨hfilling, hwarping, hready, hnodup, hfree⟩ =>
      ⟨fun i => ⟨hfilling i, hwarping i, hready i, hfree i⟩, hnodup⟩,
    fun ⟨h, hnodup⟩ => ⟨fun i => (h i).filling, fun i => (h i).warping, fun i => (h i).ready,
      hnodup, fun i => (h i).free⟩⟩

section
variable {s t : State} {i : SlotId}

theorem State.SlotsSound.agrees (h : s.SlotsSound) (i : SlotId) : s.SlotAgrees i :=
  (s.slotsSound_iff.mp h).1 i

theorem State.SlotsSound.nodup (h : s.SlotsSound) : s.slots.readyOrder.Nodup :=
  (s.slotsSound_iff.mp h).2

/-- What slots in agreement go by. -/
theorem State.SlotsSound.of_eq (h : s.SlotsSound) (hslots : t.slots = s.slots)
    (hintake : t.intake.intake = s.intake.intake) (hhand : t.inHand = s.inHand) : t.SlotsSound := by
  rw [State.slotsSound_iff] at h ⊢
  obtain ⟨hagrees, hnodup⟩ := h
  rw [hslots]
  refine ⟨fun i => ?_, hnodup⟩
  obtain ⟨hfilling, hwarping, hready, hfree⟩ := hagrees i
  exact ⟨by rwa [hslots, hintake], by rwa [hslots, hhand], by rwa [hslots], by rwa [hslots]⟩

theorem State.SlotsSound.quiet (h : s.SlotsSound) (hq : s.Quiet t) : t.SlotsSound :=
  h.of_eq hq.slots (by rw [hq.intake]) hq.inHand

/-- A slot changed in nothing but its pixels and its record's marks agrees as before, when what it
is judged by is as before. -/
theorem State.SlotAgrees.carry (h : s.SlotAgrees i)
    (hstate : (t.slots.get i).state = (s.slots.get i).state)
    (hrecord : (t.slots.get i).record = none ↔ (s.slots.get i).record = none)
    (hfilling : t.intake.intake = .filling i ↔ s.intake.intake = .filling i)
    (hhand : t.inHand = some i ↔ s.inHand = some i)
    (hready : i ∈ t.slots.readyOrder ↔ i ∈ s.slots.readyOrder) : t.SlotAgrees i where
  filling := by rw [hstate, hfilling]; exact h.filling
  warping := by rw [hstate, hhand]; exact h.warping
  ready := by rw [hstate, hready]; exact h.ready
  free := by rw [hstate, hrecord]; exact h.free

/-- One slot replaced: it must agree anew, and the others are judged as before. -/
theorem State.SlotsSound.replace {x : Slot} (h : s.SlotsSound)
    (hslots : ∀ j, t.slots.get j = if j = i then x else s.slots.get j)
    (hnodup : t.slots.readyOrder.Nodup) (hagrees : t.SlotAgrees i)
    (hfilling : ∀ j, j ≠ i → (t.intake.intake = .filling j ↔ s.intake.intake = .filling j))
    (hhand : ∀ j, j ≠ i → (t.inHand = some j ↔ s.inHand = some j))
    (hready : ∀ j, j ≠ i → (j ∈ t.slots.readyOrder ↔ j ∈ s.slots.readyOrder)) : t.SlotsSound := by
  rw [State.slotsSound_iff]
  refine ⟨fun j => ?_, hnodup⟩
  by_cases hj : j = i
  · rwa [hj]
  · have hsame : t.slots.get j = s.slots.get j := by rw [hslots, if_neg hj]
    exact (h.agrees j).carry (by rw [hsame]) (by rw [hsame]) (hfilling j hj) (hhand j hj)
      (hready j hj)

/-- A slot that fills is neither in the ready order nor in hand. -/
theorem State.SlotsSound.of_filling (h : s.SlotsSound) (hi : s.intake.intake = .filling i) :
    i ∉ s.slots.readyOrder ∧ s.inHand ≠ some i := by
  obtain ⟨hfilling, hwarping, hready, -⟩ := h.agrees i
  simp [← hready, ← hwarping, hfilling.mpr hi]

/-- A slot that fills holds a record. -/
theorem State.SlotsSound.record_of_filling (h : s.SlotsSound) (hi : s.intake.intake = .filling i) :
    (s.slots.get i).record ≠ none := by
  obtain ⟨hfilling, -, -, hfree⟩ := h.agrees i
  simp [← hfree, hfilling.mpr hi]

/-- A FREE slot is neither in the ready order nor in hand. -/
theorem State.SlotsSound.of_free (h : s.SlotsSound) (hi : (s.slots.get i).state = .free) :
    i ∉ s.slots.readyOrder ∧ s.inHand ≠ some i := by
  obtain ⟨-, hwarping, hready, -⟩ := h.agrees i
  simp [← hready, ← hwarping, hi]

/-- A slot in hand does not fill and is not in the ready order. -/
theorem State.SlotsSound.of_inHand (h : s.SlotsSound) (hi : s.inHand = some i) :
    i ∉ s.slots.readyOrder ∧ s.intake.intake ≠ .filling i := by
  obtain ⟨hfilling, hwarping, hready, -⟩ := h.agrees i
  simp [← hready, ← hfilling, hwarping.mpr hi]

/-! ## The moves that change slots -/

theorem State.SlotsSound.markExposure (h : s.SlotsSound) (f : FrameRecord → FrameRecord) :
    (s.markExposure f).SlotsSound := by
  rw [State.slotsSound_iff, State.markExposure_readyOrder]
  refine ⟨fun i => ?_, h.nodup⟩
  obtain ⟨g, hget⟩ := s.markExposure_get f i
  refine (h.agrees i).carry ?_ ?_ (by simp) (by simp [State.inHand]) (by simp)
  · rw [hget]
    rfl
  · rw [hget, Slot.mapRecord_record_eq_none]

theorem State.SlotsSound.fillLine (h : s.SlotsSound) (i : SlotId) (pixels : List (BitVec 12)) :
    (s.fillLine i pixels).SlotsSound := by
  rcases s.fillLine_cases i pixels with hq | hq
  · exact h.quiet hq
  · refine .quiet ?_ hq
    refine h.replace (i := i) (fun j => SlotPool.get_set ..) ?_ ?_ (fun _ _ => .rfl)
      (fun _ _ => .rfl) fun _ _ => ?_
    · simpa [State.writeRow] using h.nodup
    · exact (h.agrees i).carry (by simp [State.writeRow]) (by simp [State.writeRow]) .rfl .rfl
        (by simp [State.writeRow])
    · simp [State.writeRow]

theorem State.SlotsSound.completeFrame (h : s.SlotsSound) (hi : s.intake.intake = .filling i)
    (r : FrameRecord) : (s.completeFrame i r).SlotsSound := by
  obtain ⟨hready, hhand⟩ := h.of_filling hi
  have horder : (s.completeFrame i r).slots.readyOrder = s.slots.readyOrder ++ [i] := by
    simp [State.completeFrame_slots]
  have hget (j : SlotId) : (s.completeFrame i r).slots.get j
      = if j = i then (s.slots.get i).completed s.intake.defects r else s.slots.get j := by
    rw [State.completeFrame_slots, SlotPool.get_makeReady, SlotPool.get_set]
  refine h.replace hget ?_ ⟨?_, ?_, ?_, ?_⟩ (fun j hj => ?_) (fun j _ => ?_) fun j hj => ?_
  · rw [horder]
    exact List.concat_eq_append ▸ h.nodup.concat hready
  · simp [hget, Slot.completed, State.completeFrame_intake]
  · simpa [hget, Slot.completed, State.completeFrame_inHand] using hhand
  · simp [hget, Slot.completed, horder]
  · simp [hget, Slot.completed]
  · simpa [State.completeFrame_intake, hi] using Ne.symm hj
  · rw [State.completeFrame_inHand]
  · simp [horder, hj]

theorem State.SlotsSound.voidFrame (h : s.SlotsSound) (hi : s.intake.intake = .filling i)
    (r : FrameRecord) : (s.voidFrame i r).SlotsSound := by
  obtain ⟨hready, hhand⟩ := h.of_filling hi
  have horder : (s.voidFrame i r).slots.readyOrder = s.slots.readyOrder := by
    rw [State.voidFrame_slots, SlotPool.readyOrder_set]
  have hget (j : SlotId) : (s.voidFrame i r).slots.get j
      = if j = i then Slot.freed else s.slots.get j := by
    rw [State.voidFrame_slots, SlotPool.get_set]
  refine h.replace hget ?_ ⟨?_, ?_, ?_, ?_⟩ (fun j hj => ?_) (fun j _ => ?_) fun j hj => ?_
  · rw [horder]
    exact h.nodup
  · simp [hget, Slot.freed, State.voidFrame_intake, SensorIntake.frameVoid]
  · simpa [hget, Slot.freed, State.voidFrame_inHand] using hhand
  · simpa [hget, Slot.freed, horder] using hready
  · simp [hget, Slot.freed]
  · simpa [State.voidFrame_intake, SensorIntake.frameVoid, hi] using Ne.symm hj
  · rw [State.voidFrame_inHand]
  · rw [horder]

/-- With Sensor Intake not FILLING, becoming WAITING or PASSING touches no slot. -/
theorem State.SlotsSound.passing (h : s.SlotsSound) (hs : ∀ i, s.intake.intake ≠ .filling i)
    (ht : ∀ i, t.intake.intake ≠ .filling i) (hslots : t.slots = s.slots)
    (hhand : t.inHand = s.inHand) : t.SlotsSound := by
  rw [State.slotsSound_iff, hslots]
  exact ⟨fun i => (h.agrees i).carry (by rw [hslots]) (by rw [hslots]) (by simp [hs, ht])
    (by rw [hhand]) (by rw [hslots]), h.nodup⟩

theorem State.SlotsSound.endFrame (h : s.SlotsSound) : s.endFrame.SlotsSound := by
  unfold State.endFrame
  split
  · exact h
  · rename_i i hi
    unfold State.endFilling
    split
    · exact absurd ‹_› (h.record_of_filling hi)
    · split
      · exact h.voidFrame hi _
      · exact h.completeFrame hi _
  · rename_i kind hkind
    obtain ⟨hslots, hintake, hhand⟩ := s.endPassing_frames kind
    exact h.passing (by simp [hkind]) (by simp [hintake]) hslots hhand

theorem State.SlotsSound.claimFrame (h : s.SlotsSound) (hs : s.intake.intake = .waiting)
    (hi : (s.slots.get i).state = .free) (r : FrameRecord) : (s.claimFrame i r).SlotsSound := by
  obtain ⟨hready, hhand⟩ := h.of_free hi
  have hget (j : SlotId) : (s.claimFrame i r).slots.get j
      = if j = i then s.claimedSlot r else s.slots.get j := SlotPool.get_set ..
  have horder : (s.claimFrame i r).slots.readyOrder = s.slots.readyOrder :=
    SlotPool.readyOrder_set ..
  have hintake : (s.claimFrame i r).intake.intake = .filling i := rfl
  have hhand' : (s.claimFrame i r).inHand = s.inHand := rfl
  refine h.replace hget ?_ ⟨?_, ?_, ?_, ?_⟩ (fun j hj => ?_) (fun j _ => ?_) fun j hj => ?_
  · rw [horder]
    exact h.nodup
  · simp [hget, State.claimedSlot, hintake]
  · simpa [hget, State.claimedSlot, hhand'] using hhand
  · simpa [hget, State.claimedSlot, horder] using hready
  · simp [hget, State.claimedSlot]
  · simpa [hintake, hs] using Ne.symm hj
  · rw [hhand']
  · rw [horder]

theorem State.SlotsSound.beginFrame (h : s.SlotsSound) (hs : s.intake.intake = .waiting) :
    s.beginFrame.SlotsSound := by
  have hedits : (s.setIntake s.intake.editsApplied).SlotsSound := h.of_eq rfl rfl rfl
  simp only [State.beginFrame]
  split
  · exact hedits.passing (by simp [SensorIntake.editsApplied, hs]) (by simp [State.passUnsolicited])
      (by simp [State.passUnsolicited]) (by simp [State.passUnsolicited, State.inHand])
  · split
    · exact hedits.passing (by simp [SensorIntake.editsApplied, hs]) (by simp [State.dropFrame])
        (by simp [State.dropFrame]) (by simp [State.dropFrame, State.inHand])
    · exact hedits.claimFrame hs (SlotPool.lowestFree_free ‹_›) _

theorem State.SlotsSound.startFrame {take : FrameTake} (h : s.SlotsSound)
    (htake : s.nextFrame = some take) : (s.startFrame take).SlotsSound := by
  obtain ⟨hrun, horder, hrecord⟩ := State.nextFrame_eq_some htake
  have hnodup := h.nodup
  rw [horder, List.nodup_cons] at hnodup
  obtain ⟨hfirst, hrest⟩ := hnodup
  have hstate : (s.slots.get take.slot).state = .ready :=
    (h.agrees take.slot).ready.mpr (by simp [horder])
  have hfilling := (h.agrees take.slot).filling
  have hget := s.startFrame_get take
  have horder' : (s.startFrame take).slots.readyOrder = take.rest := by
    simp [State.startFrame_slots]
  refine h.replace hget ?_ ⟨?_, ?_, ?_, ?_⟩ (fun j hj => ?_) (fun j hj => ?_) fun j hj => ?_
  · rwa [horder']
  · rw [State.startFrame_intake, ← hfilling, hget, hstate]
    simp
  · simp [hget, State.startFrame_inHand]
  · simpa [hget, horder'] using hfirst
  · simp [hget, hrecord]
  · rw [State.startFrame_intake]
  · rw [State.startFrame_inHand, State.inHand, hrun]
    simpa using Ne.symm hj
  · simp [horder', horder, hj]

theorem State.SlotsSound.endWarp {r : Run} (h : s.SlotsSound) (hr : s.inHand = some r.slot)
    (record : FrameRecord) : (s.endWarp r record).SlotsSound := by
  obtain ⟨hready, hfilling⟩ := h.of_inHand hr
  have hget (j : SlotId) : (s.endWarp r record).slots.get j
      = if j = r.slot then Slot.freed else s.slots.get j := by
    rw [State.endWarp_slots, SlotPool.get_set]
  have horder : (s.endWarp r record).slots.readyOrder = s.slots.readyOrder := by
    rw [State.endWarp_slots, SlotPool.readyOrder_set]
  refine h.replace hget ?_ ⟨?_, ?_, ?_, ?_⟩ (fun j hj => ?_) (fun j hj => ?_) fun j hj => ?_
  · rw [horder]
    exact h.nodup
  · simpa [hget, Slot.freed, State.endWarp_intake] using hfilling
  · simp [hget, Slot.freed, State.endWarp_inHand]
  · simpa [hget, Slot.freed, horder] using hready
  · simp [hget, Slot.freed]
  · rw [State.endWarp_intake]
  · simpa [State.endWarp_inHand, hr] using Ne.symm hj
  · rw [horder]

/-- With every slot FREE, the ready order empty, the engine IDLE and nothing filling, all agree. -/
theorem State.slotsSound_of_reset (hslots : s.slots = SlotPool.reset) (hhand : s.inHand = none)
    (hintake : ∀ i, s.intake.intake ≠ .filling i) : s.SlotsSound := by
  have hget (i : SlotId) : s.slots.get i = Slot.freed := hslots ▸ SlotPool.get_reset i
  have horder : s.slots.readyOrder = [] := hslots ▸ rfl
  rw [State.slotsSound_iff, horder]
  exact ⟨fun i => ⟨by simp [hget, Slot.freed, hintake], by simp [hget, Slot.freed, hhand],
    by simp [hget, Slot.freed, horder], by simp [hget, Slot.freed]⟩, List.nodup_nil⟩

/-- Every chain of moves keeps the slots in agreement. -/
theorem State.Runs.slotsSound (hruns : s.Runs t) (h : s.SlotsSound) : t.SlotsSound := by
  induction hruns with
  | quiet hq => exact h.quiet hq
  | marks s f => exact h.markExposure f
  | triggers s cause tag => exact h.of_eq (by simp) (by simp) (by simp [State.inHand])
  | ends s e now => exact h.of_eq rfl rfl rfl
  | readies => exact h.of_eq (by simp) (by simp) (by simp [State.inHand])
  | loses => exact h.of_eq (by simp) (by simp) (by simp [State.inHand])
  | queues edit => exact h.of_eq rfl rfl rfl
  | arms =>
    exact h.of_eq (by simp [State.armSurvey]) (by simp [State.armSurvey])
      (by simp [State.armSurvey, State.inHand])
  | lines _ pixels => exact h.fillLine _ pixels
  | endsFrame s => exact h.endFrame
  | beginsFrame hs => exact h.beginFrame hs
  | startsWarp htake => exact h.startFrame htake
  | endsWarp hr record => exact h.endWarp hr record
  | restarts s =>
    refine State.slotsSound_of_reset rfl rfl fun i hi => ?_
    have hi : s.intake.intake.restarted = .filling i := hi
    unfold Intake.restarted at hi
    split at hi <;> cases hi
  | resets s hq =>
    exact .quiet (State.slotsSound_of_reset rfl rfl (by simp [State.reset, SensorIntake.reset])) hq
  | trans _ _ ih ih' => exact ih' (ih h)

end

end Sys2Proof.Machine

/-! PROOFS. Every move keeps the sequencer in agreement with the trigger line, the current exposure,
the survey and the pending trigger. -/

namespace Sys2Proof.Machine

/-! ## What the sequencer's operations make of it (R97 to R103) -/

theorem State.pendTrigger_position (s : State) (t : Trigger) :
    (s.pendTrigger t).position = { s.position with pendingTrigger := some t } := by
  unfold State.pendTrigger
  split <;> simp

/-- A report of a frame's end is ignored, closes the current exposure, or makes an AWAITING FRAME
sequencer READY (R103 case b). -/
theorem State.reportEnd_cases (s : State) (q : BitVec 16) :
    s.Quiet (s.reportEnd q)
      ∨ s.position.sequencer = .awaitingFrame
        ∧ s.reportEnd q = (s.setPosition s.position.closeCurrent).becomeReady := by
  unfold State.reportEnd
  split
  · split
    · exact .inr ⟨‹_›, rfl⟩
    · exact .inl ⟨rfl, rfl, rfl, rfl, rfl, rfl, by simp [PositionUnit.closeCurrent]⟩
  · exact .inl (.refl s)

section
variable {s t : State}

/-- The sequencer stays in agreement when what it goes by stays and the survey is not newly ARMED.
-/
theorem State.SequencerSound.carry (h : s.SequencerSound)
    (hsequencer : t.position.sequencer = s.position.sequencer)
    (hline : t.position.triggerLine = s.position.triggerLine)
    (hpending : t.position.pendingTrigger = s.position.pendingTrigger)
    (hcurrent : t.position.current.isSome = s.position.current.isSome)
    (hsurvey : t.intake.survey = .armed → s.intake.survey = .armed) : t.SequencerSound := by
  obtain ⟨hdriven, hwaits, hready⟩ := h
  refine ⟨by rwa [hline, hsequencer], by rwa [hsequencer, hcurrent], fun hr => ?_⟩
  rw [hsequencer] at hr
  exact ⟨fun ha => (hready hr).1 (hsurvey ha), hpending.trans (hready hr).2⟩

theorem State.SequencerSound.of_eq (h : s.SequencerSound) (hposition : t.position = s.position)
    (hsurvey : t.intake.survey = .armed → s.intake.survey = .armed) : t.SequencerSound :=
  h.carry (by rw [hposition]) (by rw [hposition]) (by rw [hposition]) (by rw [hposition]) hsurvey

theorem State.SequencerSound.quiet (h : s.SequencerSound) (hq : s.Quiet t) : t.SequencerSound :=
  h.carry hq.sequencer hq.triggerLine hq.pendingTrigger hq.current (by rw [hq.intake]; exact id)

/-- The trigger line is released while the sequencer is not EXPOSING. -/
theorem State.SequencerSound.released (h : s.SequencerSound)
    (hs : s.position.sequencer ≠ .exposing) : s.position.triggerLine = false := by
  rwa [← Bool.not_eq_true, h.1]

/-- An exposure started is in agreement, whatever stood before. -/
theorem State.startExposure_sequencerSound (s : State) (cause : Cause) (tag : Int) :
    (s.startExposure cause tag).SequencerSound := by
  simp [State.SequencerSound, State.startExposure_position, State.exposingUnit]

/-- A READY sequencer takes up the survey first, then the pending trigger, so it leaves neither
(R99). -/
theorem State.takeUpNext_sequencerSound (hready : s.position.sequencer = .ready)
    (hline : s.position.triggerLine = false) : s.takeUpNext.SequencerSound := by
  unfold State.takeUpNext
  split
  · exact s.startExposure_sequencerSound _ _
  · split
    · exact ⟨by simp [hready, hline], fun h => absurd hready h, fun _ => ⟨‹_›, ‹_›⟩⟩
    · exact State.startExposure_sequencerSound _ _ _

theorem State.becomeReady_sequencerSound (hline : s.position.triggerLine = false) :
    s.becomeReady.SequencerSound :=
  State.takeUpNext_sequencerSound rfl hline

/-! ## The moves of the sequencer -/

/-- A trigger that starts no exposure finds the sequencer not READY, and waits (R97). -/
theorem State.SequencerSound.raiseTrigger (h : s.SequencerSound) (cause : Cause) (tag : Int) :
    (s.raiseTrigger cause tag).SequencerSound := by
  unfold State.raiseTrigger
  split
  · exact s.startExposure_sequencerSound _ _
  · rename_i hlater
    obtain ⟨hdriven, hwaits, hready⟩ := h
    have hbusy : s.position.sequencer ≠ .ready := fun hr =>
      hlater (by simp [State.startsAtOnce, hr, (hready hr).1])
    have hposition := s.pendTrigger_position { cause, tag }
    exact ⟨by rwa [hposition], by rwa [hposition],
      fun hr => absurd (by rwa [hposition] at hr) hbusy⟩

theorem State.SequencerSound.exposureLost (h : s.SequencerSound)
    (hs : s.position.sequencer = .awaitingFrame) : s.exposureLost.SequencerSound :=
  State.becomeReady_sequencerSound (by simpa using h.released (by simp [hs]))

theorem State.SequencerSound.reportEnd (h : s.SequencerSound) (q : BitVec 16) :
    (s.reportEnd q).SequencerSound := by
  rcases s.reportEnd_cases q with hq | ⟨hs, hready⟩
  · exact h.quiet hq
  · rw [hready]
    exact State.becomeReady_sequencerSound (h.released (by simp [hs]))

/-- The survey ARMED is taken up at once by a READY sequencer (R79, R99). -/
theorem State.SequencerSound.armSurvey (h : s.SequencerSound) : s.armSurvey.SequencerSound := by
  unfold State.armSurvey State.takeUpArmed
  split
  · rename_i hready
    exact State.takeUpNext_sequencerSound hready.2
      (h.released (by simp [show s.position.sequencer = .ready from hready.2]))
  · rename_i hbusy
    obtain ⟨hdriven, hwaits, -⟩ := h
    exact ⟨hdriven, hwaits, fun hr => absurd ⟨rfl, hr⟩ hbusy⟩

/-! ## The frames' operations (R61 to R67) -/

theorem State.SequencerSound.fillLine (h : s.SequencerSound) (i : SlotId)
    (pixels : List (BitVec 12)) : (s.fillLine i pixels).SequencerSound := by
  rcases s.fillLine_cases i pixels with hq | hq
  · exact h.quiet hq
  · have hwritten : (s.writeRow i (lineRow (s.slots.get i) pixels)).SequencerSound := by
      refine h.of_eq rfl fun harmed => ?_
      cases hsurvey : s.intake.survey <;> simp_all [State.writeRow, Survey.examine]
    exact hwritten.quiet hq

theorem State.SequencerSound.completeFrame (h : s.SequencerSound) (i : SlotId) (r : FrameRecord) :
    (s.completeFrame i r).SequencerSound := by
  have hdone : ((s.setSlots (s.slots.makeReady i ((s.slots.get i).completed s.intake.defects r))
      ).setIntake (s.intake.frameDone r.sequence)).SequencerSound := by
    refine h.of_eq rfl fun harmed => ?_
    simp only [State.setIntake_intake, SensorIntake.frameDone_survey] at harmed
    split at harmed
    · cases harmed
    · exact harmed
  exact (hdone.quiet (.latch (.refl _) _)).reportEnd _

/-- The state in which a frame with no lines is reported (R67). -/
def State.voided (s : State) (i : SlotId) (r : FrameRecord) : State :=
  ((((s.setSlots (s.slots.set i Slot.freed)).setIntake s.intake.frameVoid).setPosition
    { s.position with skipTally := satAdd 255 r.skippedBefore 1 }).count
    Counters.frameSkipped).latch [.sourceSkipped]

theorem State.voidFrame_eq (s : State) (i : SlotId) (r : FrameRecord) :
    s.voidFrame i r
      = ((s.voided i r).reportEnd r.sequence).takeUpArmed s.intake.survey.isCollecting := rfl

theorem State.voided_position (s : State) (i : SlotId) (r : FrameRecord) :
    (s.voided i r).position = { s.position with skipTally := satAdd 255 r.skippedBefore 1 } := by
  simp [State.voided]

theorem State.voided_intake (s : State) (i : SlotId) (r : FrameRecord) :
    (s.voided i r).intake = s.intake.frameVoid := by
  simp [State.voided]

/-- A frame with no lines may arm a COLLECTING survey again; its report, or a READY sequencer at
once, takes the survey up (R82 case b, R99). -/
theorem State.SequencerSound.voidFrame (h : s.SequencerSound) (i : SlotId) (r : FrameRecord) :
    (s.voidFrame i r).SequencerSound := by
  have hposition := s.voided_position i r
  have hintake := s.voided_intake i r
  obtain ⟨hdriven, hwaits, hready⟩ := h
  have hreleased : s.position.sequencer ≠ .exposing → (s.voided i r).position.triggerLine = false :=
    fun hs => by simpa [hposition, ← hdriven] using hs
  rw [State.voidFrame_eq, State.takeUpArmed]
  rcases (s.voided i r).reportEnd_cases r.sequence with hq | ⟨hs, hreports⟩
  · have hsequencer : ((s.voided i r).reportEnd r.sequence).position.sequencer
        = s.position.sequencer := by
      rw [hq.sequencer, hposition]
    split
    · rename_i hagain
      refine State.takeUpNext_sequencerSound hagain.2 ?_
      rw [hq.triggerLine]
      exact hreleased (by simp [← hsequencer, hagain.2])
    · rename_i hnot
      refine ⟨?_, ?_, fun hr => ⟨?_, ?_⟩⟩
      · rw [hq.triggerLine, hsequencer, hposition]
        exact hdriven
      · rw [hq.current, hsequencer, hposition]
        exact hwaits
      · have hkept : s.intake.survey.isCollecting = false := by
          simpa [hr] using hnot
        rw [hq.intake, hintake, SensorIntake.frameVoid, hkept]
        exact (hready (hsequencer ▸ hr)).1
      · rw [hq.pendingTrigger, hposition]
        exact (hready (hsequencer ▸ hr)).2
  · have hline : (s.voided i r).position.triggerLine = false := by
      rw [hposition] at hs
      exact hreleased (by simp [show s.position.sequencer = _ from hs])
    have hsound : ((s.voided i r).reportEnd r.sequence).SequencerSound := by
      rw [hreports]
      exact State.becomeReady_sequencerSound hline
    split
    · rename_i hagain
      exact State.takeUpNext_sequencerSound hagain.2 (hsound.released (by simp [hagain.2]))
    · exact hsound

theorem State.SequencerSound.endFrame (h : s.SequencerSound) : s.endFrame.SequencerSound := by
  unfold State.endFrame
  split
  · exact h
  · unfold State.endFilling
    split
    · exact h.of_eq rfl id
    · split
      · exact h.voidFrame _ _
      · exact h.completeFrame _ _
  · have hpassed : (s.setIntake { s.intake with intake := .waiting }).SequencerSound :=
      h.of_eq rfl id
    simp only [State.endPassing]
    split
    · exact hpassed.reportEnd _
    all_goals exact hpassed

/-- A claim arms no survey (R61 case a, R80). -/
theorem SensorIntake.armed_of_claimed {u : SensorIntake} {i : SlotId} {cause : Cause}
    {threshold : Nat} (h : (u.claimed i cause threshold).survey = .armed) : u.survey = .armed := by
  simp only [SensorIntake.claimed] at h
  split at h
  · cases h
  · exact h

theorem State.SequencerSound.beginFrame (h : s.SequencerSound) : s.beginFrame.SequencerSound := by
  simp only [State.beginFrame]
  split
  · exact h.of_eq (by simp [State.passUnsolicited])
      (by simp [State.passUnsolicited, SensorIntake.editsApplied])
  · split
    · exact h.carry (by simp [State.dropFrame, State.reportBegin])
        (by simp [State.dropFrame, State.reportBegin])
        (by simp [State.dropFrame, State.reportBegin])
        (by simp [State.dropFrame, State.reportBegin])
        (by simp [State.dropFrame, SensorIntake.editsApplied])
    · rename_i i _
      exact h.carry rfl rfl rfl (by simp [State.claimFrame, State.reportBegin])
        (SensorIntake.armed_of_claimed (u := s.intake.editsApplied) (i := i))

/-- Every chain of moves keeps the sequencer in agreement. -/
theorem State.Runs.sequencerSound (hruns : s.Runs t) (h : s.SequencerSound) : t.SequencerSound := by
  induction hruns with
  | quiet hq => exact h.quiet hq
  | marks s f =>
    rcases s.markExposure_cases f with heq | ⟨_, _, heq⟩ | ⟨_, heq⟩
    · rwa [heq]
    · rw [heq]
      exact h.carry rfl rfl rfl rfl id
    · rw [heq]
      exact h.of_eq rfl id
  | triggers s cause tag => exact h.raiseTrigger cause tag
  | ends s e now => simp [State.SequencerSound, PositionUnit.exposureEnded]
  | readies hs => exact State.becomeReady_sequencerSound (h.released (by simp [hs]))
  | loses hs => exact h.exposureLost hs
  | queues edit => exact h.of_eq rfl id
  | arms => exact h.armSurvey
  | lines _ pixels => exact h.fillLine _ pixels
  | endsFrame s => exact h.endFrame
  | beginsFrame => exact h.beginFrame
  | startsWarp =>
    exact h.of_eq (by simp [State.startFrame]) (by simp [State.startFrame_intake])
  | endsWarp _ record =>
    exact h.of_eq (State.endWarp_position ..) (by simp [State.endWarp_intake])
  | restarts s =>
    exact ⟨by simp [State.restarted, PositionUnit.restarted],
      by simp [State.restarted, PositionUnit.restarted],
      by simp [State.restarted, PositionUnit.restarted, SensorIntake.restarted]⟩
  | resets s hq => 
    have hreset : State.reset.SequencerSound := by
      simp [State.SequencerSound, State.reset, PositionUnit.reset, SensorIntake.reset]
    exact hreset.quiet hq
  | trans _ _ ih ih' => exact ih' (ih h)

end

/-- Settles O56: a step is a chain of moves, each of which keeps both agreements. -/
theorem stepsKeepSlotsAndSequencer : Obligations.StepsKeepSlotsAndSequencer :=
  fun _ _ hslots hsequencer hstep =>
    ⟨(step_runs hstep).slotsSound hslots, (step_runs hstep).sequencerSound hsequencer⟩

end Sys2Proof.Machine

/-! PROOFS. Every move keeps the defect list and its edits within their bounds, and a COLLECTING
survey's candidates in order, unlisted and within the rows of the frame that fills. -/

namespace Sys2Proof.Machine

/-! ## The candidates of a row (R80) -/

theorem mem_rowCandidates {list : List DefectEntry} {threshold row : Nat} {r : SlotRow}
    {c : Nat × Nat} (h : c ∈ rowCandidates list threshold row r) :
    c.1 = row ∧ Unlisted list c.1 c.2 := by
  obtain ⟨column, -, hc⟩ := List.mem_filterMap.mp h
  split at hc
  · rename_i hfound
    cases hc
    exact ⟨rfl, (hasDefect_eq_false_iff ..).mp hfound.2⟩
  · cases hc

theorem rowCandidates_ordered (list : List DefectEntry) (threshold row : Nat) (r : SlotRow) :
    (rowCandidates list threshold row r).Pairwise
      fun a b => a.1 < b.1 ∨ (a.1 = b.1 ∧ a.2 < b.2) := by
  refine List.Pairwise.filterMap _ (fun i j hij a ha b hb => ?_) List.pairwise_lt_range
  split at ha
  · split at hb
    · cases ha
      cases hb
      exact .inr ⟨rfl, hij⟩
    · cases hb
  · cases ha

/-! ## The list, its edits and the survey -/

section
variable {s t : State}

theorem State.DefectsSound.of_eq (h : s.DefectsSound)
    (hdefects : t.intake.defects = s.intake.defects) (hedits : t.intake.edits = s.intake.edits) :
    t.DefectsSound := by
  unfold State.DefectsSound
  rwa [hdefects, hedits]

/-- With no edit queued the peak size is the size of the list. -/
theorem State.defectsSound_of_no_edits (hedits : t.intake.edits = [])
    (hordered : t.intake.defects.Pairwise DefectEntry.Before)
    (hsize : t.intake.defects.length ≤ 512) : t.DefectsSound := by
  unfold State.DefectsSound
  rw [hedits]
  exact ⟨hordered, Nat.zero_le _, hsize⟩

theorem State.surveySound_of_not_collecting (h : t.intake.survey.isCollecting = false) :
    t.SurveySound := by
  intro threshold candidates overflow hsurvey
  simp [hsurvey, Survey.isCollecting] at h

/-- A survey stays sound while the rows of the frame that fills stay. -/
theorem State.SurveySound.carry (h : s.SurveySound) (hsurvey : t.intake.survey = s.intake.survey)
    (hintake : t.intake.intake = s.intake.intake) (hdefects : t.intake.defects = s.intake.defects)
    (hrows : ∀ i, s.intake.intake = .filling i → (t.slots.get i).rows = (s.slots.get i).rows) :
    t.SurveySound := by
  intro threshold candidates overflow hcollecting
  rw [hsurvey] at hcollecting
  obtain ⟨⟨i, hi, hwithin⟩, hordered, hunlisted, hlength⟩ :=
    h threshold candidates overflow hcollecting
  exact ⟨⟨i, hintake.trans hi, by rwa [hrows i hi]⟩, hordered, by rwa [hdefects], hlength⟩

/-- Only a frame that fills is surveyed (R80). -/
theorem State.SurveySound.not_collecting (h : s.SurveySound)
    (hs : ∀ i, s.intake.intake ≠ .filling i) : s.intake.survey.isCollecting = false := by
  cases hsurvey : s.intake.survey with
  | idle => rfl
  | armed => rfl
  | collecting threshold candidates overflow =>
    obtain ⟨⟨i, hi, -⟩, -⟩ := h threshold candidates overflow hsurvey
    exact absurd hi (hs i)

/-- The list and the survey in one: what a step keeps. -/
def State.IntakeSound (s : State) : Prop :=
  s.DefectsSound ∧ s.SurveySound

/-- With Sensor Intake and the rows as they were, nothing changes for either. -/
theorem State.IntakeSound.of_intake (h : s.IntakeSound) (hintake : t.intake = s.intake)
    (hrows : ∀ i, s.intake.intake = .filling i → (t.slots.get i).rows = (s.slots.get i).rows) :
    t.IntakeSound :=
  ⟨h.1.of_eq (by rw [hintake]) (by rw [hintake]),
    h.2.carry (by rw [hintake]) (by rw [hintake]) (by rw [hintake]) hrows⟩

theorem State.IntakeSound.quiet (h : s.IntakeSound) (hq : s.Quiet t) : t.IntakeSound :=
  h.of_intake hq.intake fun _ _ => by rw [hq.slots]

/-! ## The moves -/

/-- An edit queued raises the peak size to the new projected size at most (R73, R74). -/
theorem State.IntakeSound.queues (h : s.IntakeSound) (edit : Edit)
    (hroom : s.intake.edits.length < 16)
    (hsize : (applyEdit s.intake.projected edit).length ≤ max 512 s.intake.projected.length) :
    (s.setIntake { s.intake with edits := s.intake.edits ++ [edit] }).IntakeSound := by
  obtain ⟨⟨hordered, hedits, hpeak⟩, hsurvey⟩ := h
  have hprojected : s.intake.projected.length ≤ 512 :=
    (length_applyEdits_le_peakSize ..).trans hpeak
  refine ⟨⟨hordered, by simpa using hroom, ?_⟩, hsurvey.carry rfl rfl rfl fun _ _ => rfl⟩
  rw [State.setIntake_intake, peakSize_append]
  exact Nat.max_le.mpr ⟨hpeak, hsize.trans (Nat.max_le.mpr ⟨Nat.le_refl _, hprojected⟩)⟩

/-- A row written is examined: its candidates follow those kept, and none is listed (R80). -/
theorem State.SurveySound.writeRow {i : SlotId} (h : s.SurveySound)
    (hi : s.intake.intake = .filling i) (r : SlotRow) : (s.writeRow i r).SurveySound := by
  intro threshold candidates overflow hcollecting
  have hexamined : s.intake.survey.examine s.intake.defects (s.slots.get i).rows.length r
      = .collecting threshold candidates overflow := hcollecting
  have hrows : ((s.writeRow i r).slots.get i).rows = (s.slots.get i).rows ++ [r] := by
    simp [State.writeRow]
  cases hsurvey : s.intake.survey with
  | idle => simp [hsurvey, Survey.examine] at hexamined
  | armed => simp [hsurvey, Survey.examine] at hexamined
  | collecting threshold' kept overflow' =>
    rw [hsurvey, Survey.examine] at hexamined
    cases hexamined
    obtain ⟨⟨k, hk, hwithin⟩, hordered, hunlisted, -⟩ := h _ _ _ hsurvey
    obtain rfl : k = i := by simpa [hi] using hk.symm
    refine ⟨⟨k, hk, fun c hc => ?_⟩, List.Pairwise.sublist (List.take_sublist ..) ?_,
      fun c hc => ?_, List.length_take_le ..⟩
    · rw [hrows, List.length_append, List.length_singleton]
      rcases List.mem_append.mp (List.mem_of_mem_take hc) with hc | hc
      · exact Nat.lt_succ_of_lt (hwithin c hc)
      · rw [(mem_rowCandidates hc).1]
        exact Nat.lt_succ_self _
    · refine List.pairwise_append.mpr ⟨hordered, rowCandidates_ordered .., fun a ha b hb => ?_⟩
      rw [(mem_rowCandidates hb).1]
      exact .inl (hwithin a ha)
    · rcases List.mem_append.mp (List.mem_of_mem_take hc) with hc | hc
      exacts [hunlisted c hc, (mem_rowCandidates hc).2]

theorem State.IntakeSound.fillLine {i : SlotId} (h : s.IntakeSound)
    (hi : s.intake.intake = .filling i) (pixels : List (BitVec 12)) :
    (s.fillLine i pixels).IntakeSound := by
  have hwritten (r : SlotRow) : (s.writeRow i r).IntakeSound :=
    ⟨h.1.of_eq rfl rfl, h.2.writeRow hi r⟩
  rcases s.fillLine_cases i pixels with hq | hq
  · exact h.quiet hq
  · exact (hwritten _).quiet hq

/-- The merge at a completed frame keeps the order and the peak size (R81). -/
theorem State.IntakeSound.completeFrame (h : s.IntakeSound) (i : SlotId) (r : FrameRecord) :
    (s.completeFrame i r).IntakeSound := by
  have hintake := s.completeFrame_intake i r
  refine ⟨?_, State.surveySound_of_not_collecting ?_⟩
  · cases hsurvey : s.intake.survey with
    | idle | armed =>
      rw [SensorIntake.frameDone_of_not_collecting (by rw [hsurvey]; rfl)] at hintake
      exact h.1.of_eq (by rw [hintake]) (by rw [hintake])
    | collecting threshold candidates overflow =>
      rw [SensorIntake.frameDone_of_collecting hsurvey] at hintake
      obtain ⟨⟨hordered, hedits, hpeak⟩, hcandidates⟩ := h
      obtain ⟨-, horder, hunlisted, -⟩ := hcandidates _ _ _ hsurvey
      obtain ⟨k, hk⟩ := foldl_judge_joined (m := { list := s.intake.defects, added := 0, overflow })
        hordered hpeak horder hunlisted
      unfold State.DefectsSound
      rw [hintake]
      exact ⟨hk.ordered, hedits, hk.peak⟩
  · rw [hintake, SensorIntake.frameDone_survey]
    split
    · rfl
    · exact Bool.not_eq_true _ ▸ ‹_›

theorem State.IntakeSound.endFrame (h : s.IntakeSound) (hslots : s.SlotsSound) :
    s.endFrame.IntakeSound := by
  unfold State.endFrame
  split
  · exact h
  · rename_i i hi
    unfold State.endFilling
    split
    · exact absurd ‹_› (hslots.record_of_filling hi)
    · split
      · have hintake := s.voidFrame_intake i
        refine ⟨h.1.of_eq (by rw [hintake]; rfl) (by rw [hintake]; rfl),
          State.surveySound_of_not_collecting ?_⟩
        rw [hintake, SensorIntake.frameVoid]
        cases hsurvey : s.intake.survey <;> rfl
      · exact h.completeFrame i _
  · rename_i kind hkind
    obtain ⟨-, hintake, -⟩ := s.endPassing_frames kind
    refine ⟨h.1.of_eq (by rw [hintake]) (by rw [hintake]), State.surveySound_of_not_collecting ?_⟩
    rw [hintake]
    exact h.2.not_collecting (by simp [hkind])

/-- At a frame's begin the edits are applied; a survey that begins COLLECTING holds no candidate yet
(R77, R80). -/
theorem State.IntakeSound.beginFrame (h : s.IntakeSound) (hs : s.intake.intake = .waiting) :
    s.beginFrame.IntakeSound := by
  obtain ⟨⟨hordered, -, hpeak⟩, hsurvey⟩ := h
  have hnot : s.intake.survey.isCollecting = false := hsurvey.not_collecting (by simp [hs])
  have happlied {t : State} (hdefects : t.intake.defects = s.intake.projected)
      (hedits : t.intake.edits = []) : t.DefectsSound :=
    State.defectsSound_of_no_edits hedits (hdefects ▸ applyEdits_ordered hordered _)
      (hdefects ▸ (length_applyEdits_le_peakSize ..).trans hpeak)
  simp only [State.beginFrame]
  split
  · exact ⟨happlied (by simp [State.passUnsolicited, SensorIntake.editsApplied])
      (by simp [State.passUnsolicited, SensorIntake.editsApplied]),
      State.surveySound_of_not_collecting
        (by simpa [State.passUnsolicited, SensorIntake.editsApplied] using hnot)⟩
  · split
    · exact ⟨happlied (by simp [State.dropFrame, SensorIntake.editsApplied])
        (by simp [State.dropFrame, SensorIntake.editsApplied]),
        State.surveySound_of_not_collecting
          (by simpa [State.dropFrame, SensorIntake.editsApplied] using hnot)⟩
    · rename_i r _ _ i _
      refine ⟨happlied rfl rfl, fun threshold candidates overflow hcollecting => ?_⟩
      have hclaimed : (if r.cause = .survey ∧ s.intake.survey = .armed then
          .collecting s.params.darkThreshold [] 0 else s.intake.survey)
            = Survey.collecting threshold candidates overflow := hcollecting
      split at hclaimed
      · cases hclaimed
        exact ⟨⟨i, rfl, by simp⟩, .nil, by simp, Nat.zero_le _⟩
      · simp [hclaimed, Survey.isCollecting] at hnot

/-- Every chain of moves keeps the list and the survey sound, the slots being in agreement. -/
theorem State.Runs.intakeSound (hruns : s.Runs t) (hslots : s.SlotsSound) (h : s.IntakeSound) :
    t.IntakeSound := by
  induction hruns with
  | quiet hq => exact h.quiet hq
  | marks s f =>
    refine h.of_intake (by simp) fun i _ => ?_
    obtain ⟨g, hget⟩ := s.markExposure_get f i
    rw [hget]
    rfl
  | triggers s cause tag => exact h.of_intake (by simp) (by simp)
  | ends s e now => exact h.of_intake rfl fun _ _ => rfl
  | readies => exact h.of_intake (by simp) (by simp)
  | loses => exact h.of_intake (by simp) (by simp)
  | queues edit hroom hsize => exact h.queues edit hroom hsize
  | arms =>
    exact ⟨h.1.of_eq (by simp [State.armSurvey]) (by simp [State.armSurvey]),
      State.surveySound_of_not_collecting (by simp [State.armSurvey, Survey.isCollecting])⟩
  | lines hi pixels => exact h.fillLine hi pixels
  | endsFrame s => exact h.endFrame hslots
  | beginsFrame hs => exact h.beginFrame hs
  | startsWarp =>
    refine h.of_intake (State.startFrame_intake ..) fun i _ => ?_
    rw [State.startFrame_get]
    split
    · subst i
      rfl
    · rfl
  | endsWarp hr record =>
    refine h.of_intake (State.endWarp_intake ..) fun i hi => ?_
    rw [State.endWarp_slots, SlotPool.get_set, if_neg]
    rintro rfl
    exact (hslots.of_inHand hr).2 hi
  | restarts s =>
    obtain ⟨⟨hordered, -, hpeak⟩, -⟩ := h
    exact ⟨State.defectsSound_of_no_edits rfl hordered ((length_le_peakSize ..).trans hpeak),
      State.surveySound_of_not_collecting rfl⟩
  | resets s hq =>
    have hreset : State.reset.IntakeSound :=
      ⟨State.defectsSound_of_no_edits rfl .nil (Nat.zero_le _),
        State.surveySound_of_not_collecting rfl⟩
    exact hreset.quiet hq
  | trans hfirst _ ih ih' => exact ih' (hfirst.slotsSound hslots) (ih hslots h)

end

/-- Settles O54: a step is a chain of moves; the merge and the edits keep the list in order and the
peak size within 512, and a survey collects in the frame that fills alone. -/
theorem stepsKeepTheDefectList : Obligations.StepsKeepTheDefectList :=
  fun _ _ hdefects hsurvey hslots hstep => (step_runs hstep).intakeSound hslots ⟨hdefects, hsurvey⟩

end Sys2Proof.Machine

/-! PROOFS. The commands of Chapter 4: an edit is turned away or queued and answered with the sizes
after it; DARK SURVEY arms the survey, which a READY sequencer takes up. -/

namespace Sys2Proof.Machine

/-! ## Edit commands consumed (R73) -/

section
variable {tag number : Byte} {owner : State → Answer × State} {s : State}

/-- An edit command turned away leaves its REPLY, with the present sizes, and nothing else. -/
theorem consume_of_editAnswer {code : ReplyCode} (h : s.PlaceFree)
    (ho : owner s.holdReplyPlace = editAnswer code s.holdReplyPlace) :
    consume tag number owner s
      = s.placeReply tag number { code, content := s.intake.editContent } :=
  consume_of_unchanged h ho

/-- An edit ACCEPTED joins the queue, and its REPLY carries the sizes with it. -/
theorem consume_of_acceptEdit {edit : Edit} (h : s.PlaceFree)
    (ho : owner s.holdReplyPlace = acceptEdit edit s.holdReplyPlace) :
    consume tag number owner s =
      (s.setIntake { s.intake with edits := s.intake.edits ++ [edit] }).placeReply tag number
        { code := .accepted
          content := bigEndian 2
              (applyEdit (applyEdits s.intake.defects s.intake.edits) edit).length
            ++ [BitVec.ofNat 8 (s.intake.edits.length + 1)] } := by
  have hlength : s.intake.edits.length + 1 = (s.intake.edits ++ [edit]).length := by simp
  rw [consume_of_placeFree h, ho, ← applyEdits_append, hlength]
  rfl

end

/-! ## Which edits are taken (R74 to R76) -/

theorem methodOf_eq {m : BitVec 2} (h : m ≠ 3) :
    methodOf m = some (if m = 0 then .h else if m = 1 then .v else .q) := by
  revert m
  decide

theorem originFilterOf_of_two_le {f : Byte} (h : 2 ≤ f.toNat) : originFilterOf f = none := by
  unfold originFilterOf
  split
  · omega
  · omega
  · rfl

theorem originFilterOf_of_lt_two {f : Byte} (h : f.toNat < 2) :
    originFilterOf f = some (decide (f = 1)) := by
  have hf : f = 0 ∨ f = 1 := by bv_omega
  rcases hf with rfl | rfl <;> rfl

theorem SensorIntake.editsFull_iff (u : SensorIntake) : u.editsFull = true ↔ 16 ≤ u.edits.length :=
  decide_eq_true_iff

section
variable {row : BitVec 10} {column : BitVec 11} {s : State}

/-- Every row a command can name is within the raster; a column need not be. -/
theorem coordinate_outside_iff :
    (1023 < row.toNat ∨ 1279 < column.toNat) ↔ 1279 < column.toNat := by
  have := row.isLt
  omega

theorem ownDefectAdd_of_bad {method : BitVec 2} (h : 1279 < column.toNat ∨ method = 3) :
    ownDefectAdd row column method s = editAnswer .badValue s := by
  unfold ownDefectAdd
  split
  · rfl
  · rename_i hm
    rw [if_pos (coordinate_outside_iff.mpr (h.resolve_right ?_))]
    rintro rfl
    cases hm

theorem ownDefectAdd_of_good {method : BitVec 2} (hcolumn : column.toNat ≤ 1279) (hm : method ≠ 3) :
    ownDefectAdd row column method s =
      if s.intake.editsFull then editAnswer .busy s
      else if hasDefect s.intake.projected row.toNat column.toNat then editAnswer .existing s
      else if Config.defectCapacity ≤ s.intake.projected.length then editAnswer .full s
      else acceptEdit (.add row.toNat column.toNat
        (if method = 0 then .h else if method = 1 then .v else .q)) s := by
  unfold ownDefectAdd
  rw [methodOf_eq hm]
  exact if_neg (by rw [coordinate_outside_iff]; omega)

theorem ownDefectRemove_of_bad (h : 1279 < column.toNat) :
    ownDefectRemove row column s = editAnswer .badValue s :=
  if_pos (.inr h)

theorem ownDefectRemove_of_good (hcolumn : column.toNat ≤ 1279) :
    ownDefectRemove row column s =
      if s.intake.editsFull then editAnswer .busy s
      else if hasDefect s.intake.projected row.toNat column.toNat then
        acceptEdit (.remove row.toNat column.toNat) s
      else editAnswer .absent s :=
  if_neg (by rw [coordinate_outside_iff]; omega)

theorem ownDefectClear_of_bad {f : Byte} (h : 2 ≤ f.toNat) :
    ownDefectClear f s = editAnswer .badValue s := by
  unfold ownDefectClear
  rw [originFilterOf_of_two_le h]

theorem ownDefectClear_of_good {f : Byte} (h : f.toNat < 2) :
    ownDefectClear f s =
      if s.intake.editsFull then editAnswer .busy s
      else acceptEdit (.clear (decide (f = 1))) s := by
  unfold ownDefectClear
  rw [originFilterOf_of_lt_two h]

end

/-- Settles O19: the operands are judged first, then the queue, then the projected list. -/
theorem defectEditsAreJudged : Obligations.DefectEditsAreJudged := by
  intro s tag hplace list answered queued listed
  have hturned {number : Byte} {owner : State → Answer × State} {code : ReplyCode}
      (ho : owner s.holdReplyPlace = editAnswer code s.holdReplyPlace) :
      .next (consume tag number owner s) = answered number code :=
    congrArg _ (consume_of_editAnswer hplace ho)
  have htaken {number : Byte} {owner : State → Answer × State} {edit : Edit}
      (ho : owner s.holdReplyPlace = acceptEdit edit s.holdReplyPlace) :
      .next (consume tag number owner s) = queued number edit :=
    congrArg _ (consume_of_acceptEdit hplace ho)
  have hfull (h : 16 ≤ s.intake.edits.length) : s.holdReplyPlace.intake.editsFull = true :=
    (SensorIntake.editsFull_iff _).mpr h
  have hroom (h : s.intake.edits.length < 16) : ¬s.holdReplyPlace.intake.editsFull = true :=
    fun hf => absurd ((SensorIntake.editsFull_iff _).mp hf) (Nat.not_le.mpr h)
  have hlisted (row column : Nat) :
      hasDefect s.holdReplyPlace.intake.projected row column = true ↔ listed row column :=
    hasDefect_iff ..
  refine ⟨fun row column method => ⟨fun h => ?addBad, fun hcolumn hm => ⟨fun h => ?addBusy,
      fun h hl => ?addExisting, fun h hl hs => ?addFull, fun h hl hs => ?addTaken⟩⟩,
    fun row column => ⟨fun h => ?removeBad, fun hcolumn h => ?removeBusy,
      fun hcolumn h hl => ?removeAbsent, fun hcolumn h hl => ?removeTaken⟩,
    fun f => ⟨fun h => ?clearBad, fun hf h => ?clearBusy, fun hf h => ?clearTaken⟩⟩
  case addBad => exact hturned (ownDefectAdd_of_bad h)
  case addBusy => exact hturned ((ownDefectAdd_of_good hcolumn hm).trans (if_pos (hfull h)))
  case addExisting =>
    refine hturned ((ownDefectAdd_of_good hcolumn hm).trans ?_)
    rw [if_neg (hroom h), if_pos ((hlisted ..).mpr hl)]
  case addFull =>
    refine hturned ((ownDefectAdd_of_good hcolumn hm).trans ?_)
    rw [if_neg (hroom h), if_neg (mt (hlisted ..).mp hl)]
    exact if_pos hs
  case addTaken =>
    refine htaken ((ownDefectAdd_of_good hcolumn hm).trans ?_)
    rw [if_neg (hroom h), if_neg (mt (hlisted ..).mp hl)]
    exact if_neg (Nat.not_le.mpr hs)
  case removeBad => exact hturned (ownDefectRemove_of_bad h)
  case removeBusy => exact hturned ((ownDefectRemove_of_good hcolumn).trans (if_pos (hfull h)))
  case removeAbsent =>
    refine hturned ((ownDefectRemove_of_good hcolumn).trans ?_)
    rw [if_neg (hroom h), if_neg (mt (hlisted ..).mp hl)]
  case removeTaken =>
    refine htaken ((ownDefectRemove_of_good hcolumn).trans ?_)
    rw [if_neg (hroom h), if_pos ((hlisted ..).mpr hl)]
  case clearBad => exact hturned (ownDefectClear_of_bad h)
  case clearBusy => exact hturned ((ownDefectClear_of_good hf).trans (if_pos (hfull h)))
  case clearTaken => exact htaken ((ownDefectClear_of_good hf).trans (if_neg (hroom h)))

/-! ## DARK SURVEY (R79, R99) -/

/-- What an exposure started is (R101). -/
theorem State.startExposure_started (s : State) (cause : Cause) (tag : Int) :
    s.StartedExposure (s.startExposure cause tag) cause tag := by
  refine ⟨?_, s.startExposure_lamps .., ?_, s.startExposure_kept .., fun hp => ?_, fun hc ht => ?_⟩
  · rw [State.startExposure_position, State.startExposure_lamps]
    rfl
  · rw [State.startExposure_guard, LampProtection.windowOpened_eq]
  · exact State.latch_reported _ (by simp [hp, eventIf])
  · exact State.latch_reported _ (by simp [hc, ht, eventIf])

/-- Started, an exposure stays so as its REPLY is placed. -/
theorem State.StartedExposure.placeReply {s t : State} {cause : Cause} {x : Int}
    (h : s.StartedExposure t cause x) (tag number : Byte) (a : Answer) :
    s.StartedExposure (t.placeReply tag number a) cause x := by
  obtain ⟨hposition, hlamps, hguard, hlink, hprobe, htune⟩ := h
  exact ⟨hposition, hlamps, hguard, hlink.trans ⟨rfl, rfl, rfl, rfl, rfl, rfl, rfl, rfl, rfl⟩,
    fun hp => (hprobe hp).placeReply _ _ _, fun hc ht => (htune hc ht).placeReply _ _ _⟩

/-- An exposure started changes the blocks of Chapters 5 to 7 and the latches, no more. -/
theorem State.startExposure_frame (s : State) (cause : Cause) (tag : Int) :
    s.startExposure cause tag =
      { s with
        position := (s.startExposure cause tag).position
        lamps := (s.startExposure cause tag).lamps
        guard := (s.startExposure cause tag).guard
        link := (s.startExposure cause tag).link } := by
  unfold State.startExposure
  rw [State.latch_eq_setLink]
  rfl

/-- In a SURVEY exposure every segment is dark (R114). -/
theorem State.exposedLamps_survey (s : State) (i : Fin 8) :
    ((s.exposedLamps .survey).segments.get i).applied = 0 := by
  simp [State.exposedLamps, IlluminationUnit.exposed, SegmentDrive.exposed, appliedDuty]

/-- An exposure started while a place is held for a REPLY is started as without it. -/
theorem State.StartedExposure.of_holdReplyPlace {s t : State} {cause : Cause} {x : Int}
    (h : s.holdReplyPlace.StartedExposure t cause x) : s.StartedExposure t cause x := by
  obtain ⟨hposition, hlamps, hguard, hlink, hreported⟩ := h
  exact ⟨hposition, hlamps, hguard,
    .trans ⟨rfl, rfl, rfl, rfl, rfl, rfl, rfl, rfl, rfl⟩ hlink, hreported⟩

/-- An ARMED survey taken up by a READY sequencer starts its exposure (R99). -/
theorem State.takeUpArmed_of_armed {s : State} (hsurvey : s.intake.survey = .armed)
    (hready : s.position.sequencer = .ready) :
    s.takeUpArmed true = s.startExposure .survey s.position.p :=
  (if_pos ⟨rfl, hready⟩).trans (if_pos hsurvey)

theorem ownDarkSurvey_of_busy {s : State} (h : s.intake.survey ≠ .idle) :
    ownDarkSurvey s = (.bare .busy, s) := by
  unfold ownDarkSurvey
  split
  · exact absurd ‹_› h
  · rfl
  · rfl

theorem ownDarkSurvey_of_idle {s : State} (h : s.intake.survey = .idle) :
    ownDarkSurvey s = (.bare .accepted, s.armSurvey) := by
  simp [ownDarkSurvey, h]

/-- DARK SURVEY ACCEPTED: the survey armed, then the REPLY placed. -/
theorem exec_darkSurvey_of_idle {s : State} (hplace : s.PlaceFree) (h : s.intake.survey = .idle)
    (tag : Byte) :
    exec (.darkSurvey tag) s
      = .next (s.holdReplyPlace.armSurvey.placeReply tag 11 (.bare .accepted)) := by
  refine congrArg Host.Outcome.next ((consume_of_placeFree hplace).trans ?_)
  rw [ownDarkSurvey_of_idle (s := s.holdReplyPlace) h]

/-- Settles O21: the survey armed is the first thing a READY sequencer takes up. -/
theorem darkSurveyArms : Obligations.DarkSurveyArms := by
  intro s tag hplace armed
  refine ⟨fun hbusy => ?_, fun hidle hwaits => ?_, fun hidle hready => ?_⟩
  · exact congrArg _ (consume_of_unchanged hplace (ownDarkSurvey_of_busy hbusy))
  · rw [exec_darkSurvey_of_idle hplace hidle, State.armSurvey, State.takeUpArmed,
      if_neg fun h => hwaits h.2]
    rfl
  · rw [exec_darkSurvey_of_idle hplace hidle]
    have harmed : s.holdReplyPlace.armSurvey
        = armed.holdReplyPlace.startExposure .survey s.position.p :=
      State.takeUpArmed_of_armed rfl hready
    rw [harmed]
    have hstarted := armed.holdReplyPlace.startExposure_started .survey s.position.p
    refine ⟨_, rfl, hstarted.of_holdReplyPlace.placeReply _ _ _, ?_, fun i => ?_,
      State.placeReply_replied ..⟩
    · rw [armed.holdReplyPlace.startExposure_frame]
      rfl
    · rw [State.placeReply_lamps, State.startExposure_lamps]
      exact armed.exposedLamps_survey i

end Sys2Proof.Machine

/-! PROOFS. The pixel port: FRAME BEGIN claims, drops or passes a frame; a LINE becomes a row or
is ignored (R61 to R65, R68, R77, R80). -/

namespace Sys2Proof.Machine

/-! ## FRAME BEGIN (R61 to R64, R77) -/

section
variable {s : State}

/-- With no frame in progress there is none to end (R64). -/
theorem State.endFrame_of_waiting (h : s.intake.intake = .waiting) : s.endFrame = s := by
  simp [State.endFrame, h]

theorem exec_frameBegin_of_waiting (h : s.intake.intake = .waiting) :
    exec .frameBegin s = .next s.beginFrame :=
  congrArg (fun u => Host.Outcome.next (State.beginFrame u)) (State.endFrame_of_waiting h)

theorem State.beginFrame_of_no_record (h : s.position.outstanding = none) :
    s.beginFrame = (s.setIntake s.intake.editsApplied).passUnsolicited := by
  simp [State.beginFrame, h]

theorem State.beginFrame_of_no_slot {r : FrameRecord} (h : s.position.outstanding = some r)
    (hslots : s.slots.lowestFree = none) :
    s.beginFrame = (s.setIntake s.intake.editsApplied).dropFrame r := by
  simp [State.beginFrame, h, hslots]

theorem State.beginFrame_of_slot {r : FrameRecord} {i : SlotId}
    (h : s.position.outstanding = some r) (hslots : s.slots.lowestFree = some i) :
    s.beginFrame = (s.setIntake s.intake.editsApplied).claimFrame i r := by
  simp [State.beginFrame, h, hslots]

end

theorem SlotPool.lowestFree_eq_none {p : SlotPool} (h : ∀ i, (p.get i).state ≠ .free) :
    p.lowestFree = none := by
  have h0 : p.slot0.state ≠ .free := h .slot0
  have h1 : p.slot1.state ≠ .free := h .slot1
  have h2 : p.slot2.state ≠ .free := h .slot2
  simp [SlotPool.lowestFree, h0, h1, h2]

/-- The number of a slot (section 0.5 case l). -/
def SlotId.number (i : SlotId) : Nat :=
  match i with
  | .slot0 => 0
  | .slot1 => 1
  | .slot2 => 2

/-- A FREE slot with no FREE slot of a lower number is the lowest-numbered (R61 case a). -/
theorem SlotPool.lowestFree_eq_some {p : SlotPool} {i : SlotId} (hi : (p.get i).state = .free)
    (hlower : ∀ j : SlotId, j.number < i.number → (p.get j).state ≠ .free) :
    p.lowestFree = some i := by
  cases i with
  | slot0 => exact if_pos hi
  | slot1 =>
    have h0 : p.slot0.state ≠ .free := hlower .slot0 (by decide)
    exact (if_neg h0).trans (if_pos hi)
  | slot2 =>
    have h0 : p.slot0.state ≠ .free := hlower .slot0 (by decide)
    have h1 : p.slot1.state ≠ .free := hlower .slot1 (by decide)
    exact (if_neg h0).trans ((if_neg h1).trans (if_pos hi))

/-- Settles O35: a frame in progress is ended first; then the outstanding record and the lowest FREE
slot decide what becomes of the new one. -/
theorem frameBeginClaimsDropsOrPasses : Obligations.FrameBeginClaimsDropsOrPasses := by
  refine ⟨fun s => ⟨s.endFrame, rfl, s.endFrame_waiting, ?_⟩, fun s hs => ?_⟩
  · rw [exec_frameBegin_of_waiting s.endFrame_waiting]
    rfl
  intro list rank begun
  rw [exec_frameBegin_of_waiting hs]
  refine ⟨fun hrecord => ?unsolicited, fun r hrecord => ⟨fun hslots => ?dropped,
    fun i hfree hlower => ?claimed⟩⟩
  case unsolicited =>
    rw [State.beginFrame_of_no_record hrecord, State.passUnsolicited]
    refine ⟨_, rfl, ?_, State.latch_kept _ _, State.latch_reported _ (by simp)⟩
    rw [State.latch_eq_setLink]
    rfl
  case dropped =>
    rw [State.beginFrame_of_no_slot hrecord (SlotPool.lowestFree_eq_none hslots), State.dropFrame]
    refine ⟨_, rfl, ?_, State.latch_kept _ _, State.latch_reported _ (by simp)⟩
    rw [State.latch_eq_setLink]
    rfl
  case claimed =>
    have hrank (j : SlotId) : rank j = j.number := by cases j <;> rfl
    simp only [hrank] at hlower
    rw [State.beginFrame_of_slot hrecord (SlotPool.lowestFree_eq_some hfree hlower)]
    rfl

/-! ## LINE (R65, R68, R80) -/

/-- The value of a line's pixel, black subtracted (R68). -/
def pixelValue (slot : Slot) (pixels : List (BitVec 12)) (column : Nat) : Nat :=
  (pixels.getD column 0).toNat - slot.black

/-- The values of a line, cut at the raster's width (R65). -/
theorem cutLine_eq (slot : Slot) (pixels : List (BitVec 12)) :
    (pixels.take slot.ws).map (blackSubtract slot.black)
      = (List.range (min pixels.length slot.ws)).map (pixelValue slot pixels) := by
  refine List.ext_getElem (by simp [Nat.min_comm]) fun c hc _ => ?_
  have hlt : c < pixels.length := by simp at hc; omega
  simp [blackSubtract, pixelValue, hlt]

/-- The row of a line is as wide as the raster, each column with its own value or the last (R65). -/
theorem lineRow_eq (slot : Slot) {pixels : List (BitVec 12)} (h : pixels ≠ []) :
    lineRow slot pixels =
      { pixels := (List.range slot.ws).map
          fun c => pixelValue slot pixels (min c (pixels.length - 1))
        received := min pixels.length slot.ws } := by
  have hpos : 0 < pixels.length := List.length_pos_iff.mpr h
  simp only [lineRow, cutLine_eq, List.length_map, List.length_range, SlotRow.mk.injEq]
  refine ⟨List.ext_getElem (by simp) fun c _ hc => ?_, trivial⟩
  have hlt : c < slot.ws := by simpa using hc
  rw [List.getElem_append]
  split
  · rename_i hin
    have hin : c < min pixels.length slot.ws := by simpa using hin
    simp only [List.getElem_map, List.getElem_range]
    rw [Nat.min_eq_left (by omega)]
  · rename_i hout
    have hout : ¬c < min pixels.length slot.ws := by simpa using hout
    have hcut : min pixels.length slot.ws = pixels.length - 1 + 1 := by omega
    rw [List.getElem_replicate, hcut, List.range_succ, List.map_append]
    simp only [List.map_cons, List.map_nil, List.getLastD_concat, List.getElem_map,
      List.getElem_range]
    rw [Nat.min_eq_right (by omega)]

/-- The candidates of a line's row: the columns received and unlisted whose value is above the
threshold, left to right (R80). -/
theorem rowCandidates_lineRow (list : List DefectEntry) (threshold row : Nat) (slot : Slot)
    {pixels : List (BitVec 12)} (h : pixels ≠ []) :
    rowCandidates list threshold row (lineRow slot pixels) =
      (((List.range (min pixels.length slot.ws)).filter fun column =>
          ¬∃ e ∈ list, e.row = row ∧ e.column = column).map fun column => (row, column)).filter
        fun c => threshold < pixelValue slot pixels c.2 := by
  rw [lineRow_eq slot h, rowCandidates, List.filter_map, List.filter_filter,
    ← List.filterMap_eq_filter, List.map_filterMap]
  refine List.filterMap_congr fun column hcolumn => ?_
  have hlt : column < min pixels.length slot.ws := List.mem_range.mp hcolumn
  have hvalue : ((List.range slot.ws).map fun c =>
      pixelValue slot pixels (min c (pixels.length - 1))).getD column 0
        = pixelValue slot pixels column := by
    rw [List.getD_eq_getElem _ _ (by simp; omega), List.getElem_map, List.getElem_range,
      Nat.min_eq_left (by omega)]
  have hlisted :
      hasDefect list row column = false ↔ ¬∃ e ∈ list, e.row = row ∧ e.column = column := by
    rw [← hasDefect_iff, Bool.not_eq_true]
  simp only [hvalue, hlisted, Option.guard, Function.comp_apply, Bool.and_eq_true,
    decide_eq_true_eq]
  split <;> rfl

/-! What becomes of a line while FILLING (R65). -/

section
variable {s : State} {i : SlotId} {pixels : List (BitVec 12)}

theorem exec_line_of_filling (hi : s.intake.intake = .filling i) (pixels : List (BitVec 12)) :
    exec (.line pixels) s = .next (s.fillLine i pixels) := by
  show execLine pixels s = _
  simp [execLine, hi]

theorem exec_line_of_not_filling (hi : ∀ i, s.intake.intake ≠ .filling i)
    (pixels : List (BitVec 12)) : exec (.line pixels) s = .next s := by
  show execLine pixels s = _
  unfold execLine
  split
  · exact absurd ‹_› (hi _)
  · rfl
  · rfl

theorem State.fillLine_nil (s : State) (i : SlotId) : s.fillLine i [] = s := rfl

theorem State.fillLine_of_full (hpixels : pixels ≠ [])
    (hrows : (s.slots.get i).hs ≤ (s.slots.get i).rows.length) :
    s.fillLine i pixels = s.count Counters.lineAdjusted := by
  simp [State.fillLine, hpixels, hrows]

/-- A line that becomes a row is counted as adjusted when its length differs from the width. -/
theorem State.fillLine_of_room (hpixels : pixels ≠ [])
    (hrows : (s.slots.get i).rows.length < (s.slots.get i).hs) :
    s.fillLine i pixels =
      (s.writeRow i (lineRow (s.slots.get i) pixels)).setLink
        (if pixels.length = (s.slots.get i).ws then s.link
          else { s.link with counters := s.link.counters.lineAdjusted }) := by
  unfold State.fillLine
  rw [if_neg (by simpa using hpixels), if_neg (Nat.not_le.mpr hrows)]
  split <;> rfl

end

/-- Settles O36: a line is the next row or is ignored; its candidates are the columns above the
threshold that are not listed. -/
theorem linesFillTheRaster : Obligations.LinesFillTheRaster := by
  intro s pixels adjusted
  refine ⟨fun h => ?ignored, fun i hi hpixels => ⟨fun hrows => ?full, fun hrows => ?row⟩⟩
  case ignored =>
    by_cases hi : ∀ i, s.intake.intake ≠ .filling i
    · exact exec_line_of_not_filling hi pixels
    · obtain ⟨i, hi⟩ := not_forall_not.mp hi
      rw [h.resolve_left fun hnot => hnot i hi, exec_line_of_filling hi, State.fillLine_nil]
  case full =>
    rw [exec_line_of_filling hi, State.fillLine_of_full hpixels hrows]
    rfl
  case row =>
    intro row found
    rw [exec_line_of_filling hi, State.fillLine_of_room hpixels hrows, State.writeRow]
    have hrow : lineRow (s.slots.get i) pixels = row := lineRow_eq _ hpixels
    cases hsurvey : s.intake.survey with
    | idle | armed =>
      rw [hrow]
      rfl
    | collecting threshold kept overflow =>
      rw [Survey.examine, rowCandidates_lineRow _ _ _ _ hpixels, hrow]
      rfl

end Sys2Proof.Machine

/-! PROOFS. FRAME END: a frame that passes, a frame with no lines, and a frame completed (R62 to
R67). -/

namespace Sys2Proof.Machine

section
variable {s : State}

theorem State.endFrame_of_passing {kind : PassKind} (h : s.intake.intake = .passing kind) :
    s.endFrame = s.endPassing kind := by
  simp [State.endFrame, h]

theorem State.endFrame_of_filling {i : SlotId} {r : FrameRecord} (h : s.intake.intake = .filling i)
    (hr : (s.slots.get i).record = some r) :
    s.endFrame
      = if (s.slots.get i).rows.length = 0 then s.voidFrame i r else s.completeFrame i r := by
  simp [State.endFrame, h, State.endFilling, hr]

/-- A DROPPED frame that is still to be reported is reported at its end (R62). -/
theorem State.endPassing_of_dropped (s : State) (q : BitVec 16) :
    s.endPassing (.dropped (some q))
      = (s.setIntake { s.intake with intake := .waiting }).reportEnd q := rfl

/-- Any other frame that passes is not reported (R63, R84). -/
theorem State.endPassing_of_not_dropped {kind : PassKind} (h : ∀ q, kind ≠ .dropped (some q)) :
    s.endPassing kind = s.setIntake { s.intake with intake := .waiting } := by
  simp only [State.endPassing]
  split
  · exact absurd rfl (h _)
  all_goals rfl

/-- A frame with no lines arms the survey when it was COLLECTING (R67, R82). -/
theorem SensorIntake.frameVoid_arms_iff (u : SensorIntake) :
    u.frameVoid.survey = .armed ∧ u.survey ≠ .armed ↔ u.survey.isCollecting = true := by
  cases h : u.survey <;> simp [SensorIntake.frameVoid, h, Survey.isCollecting]

/-- The rows of a frame with at least one line, brought to its height (R66 case a). -/
theorem Slot.filledRows_eq {slot : Slot} {last : SlotRow} (h : slot.rows.getLast? = some last) :
    slot.filledRows
      = slot.rows ++ List.replicate (slot.hs - slot.rows.length) { last with received := 0 } := by
  simp [Slot.filledRows, h]

end

/-- Settles O37: a frame that passes, one with no lines and one with lines each have their own end;
a survey armed again by a frame with no lines is taken up like one armed by command. -/
theorem frameEndCompletesTheFrame : Obligations.FrameEndCompletesTheFrame := by
  intro s ended
  refine ⟨fun hs => ?waiting, fun kind hkind => ?passing, fun i r hi hr => ⟨fun hrows => ?void,
    fun last hlast => ?complete⟩⟩
  case waiting => exact congrArg _ (State.endFrame_of_waiting hs)
  case passing =>
    have hexec : exec .frameEnd s = .next (s.endPassing kind) :=
      congrArg _ (State.endFrame_of_passing hkind)
    rw [hexec]
    refine ⟨fun q hq => ?_, fun hq => congrArg _ (State.endPassing_of_not_dropped hq)⟩
    rw [hq, State.endPassing_of_dropped]
    rfl
  case void =>
    intro u again
    have hexec : exec .frameEnd s = .next (s.voidFrame i r) :=
      congrArg _ ((State.endFrame_of_filling hi hr).trans (if_pos (by simp [hrows])))
    have hu : u = (s.voided i r).reportEnd r.sequence := by
      simp only [u, State.voided, SensorIntake.frameVoid]
      cases hsurvey : s.intake.survey <;> rfl
    have hsurvey : u.intake.survey = s.intake.frameVoid.survey := by
      rw [hu, State.reportEnd_intake, State.voided_intake]
    have hagain : again ↔ s.intake.survey.isCollecting = true ∧ u.position.sequencer = .ready := by
      rw [← SensorIntake.frameVoid_arms_iff, ← hsurvey, and_assoc]
    rw [hexec, State.voidFrame_eq, ← hu]
    refine ⟨fun hnot => ?_, fun h => ?_⟩
    · rw [State.takeUpArmed, if_neg (mt hagain.mpr hnot)]
    · obtain ⟨hcollecting, hready⟩ := hagain.mp h
      rw [hcollecting, State.takeUpArmed_of_armed h.1 hready]
      exact ⟨_, rfl, u.startExposure_started _ _, u.startExposure_frame _ _⟩
  case complete =>
    intro full list
    have hne : ¬(s.slots.get i).rows.length = 0 := by
      intro h0
      simp [List.length_eq_zero_iff.mp h0] at hlast
    have hexec : exec .frameEnd s = .next (s.completeFrame i r) :=
      congrArg _ ((State.endFrame_of_filling hi hr).trans (if_neg hne))
    rw [hexec, State.completeFrame, Slot.completed, Slot.filledRows_eq hlast]
    cases hsurvey : s.intake.survey <;> rfl

end Sys2Proof.Machine

/-! PROOFS. Defect substitution: each listed pixel of a whole raster is written once, from the
raster before substitution (R71, R72). -/

namespace Sys2Proof.Machine

/-! ## Writing one pixel -/

/-- Every row of a slot received and of the raster's width. -/
def Slot.Whole (slot : Slot) : Prop :=
  slot.rows.length = slot.hs ∧ ∀ r ∈ slot.rows, r.pixels.length = slot.ws

/-- A slot with one pixel written. -/
def Slot.withPixel (slot : Slot) (row column value : Nat) : Slot :=
  { slot with rows := setPixel slot.rows row column value }

section
variable {slot : Slot} {row column value : Nat}

/-- A pixel is written into its row. -/
theorem setPixel_eq {rows : List SlotRow} (h : row < rows.length) :
    setPixel rows row column value
      = rows.set row { rows[row] with pixels := rows[row].pixels.set column value } := by
  simp [setPixel, h]

theorem Slot.Whole.withPixel (h : slot.Whole) (hrow : row < slot.hs) :
    (slot.withPixel row column value).Whole := by
  obtain ⟨hheight, hwidth⟩ := h
  have hin : row < slot.rows.length := hheight ▸ hrow
  unfold Slot.withPixel
  rw [setPixel_eq hin]
  refine ⟨by simpa using hheight, fun r hr => ?_⟩
  rcases List.mem_or_eq_of_mem_set hr with hr | rfl
  · exact hwidth r hr
  · simpa using hwidth _ (List.getElem_mem hin)

/-- A pixel of a whole raster is the one its row holds. -/
theorem Slot.Whole.pixel_eq (h : slot.Whole) (hrow : row < slot.hs) (hcolumn : column < slot.ws) :
    ∃ (hr : row < slot.rows.length) (hc : column < slot.rows[row].pixels.length),
      slot.pixel column row = slot.rows[row].pixels[column] := by
  obtain ⟨hheight, hwidth⟩ := h
  have hr : row < slot.rows.length := hheight ▸ hrow
  have hc : column < slot.rows[row].pixels.length := by
    rwa [hwidth _ (List.getElem_mem hr)]
  exact ⟨hr, hc, by simp [Slot.pixel, hr, hc]⟩

theorem Slot.Whole.pixel_withPixel_same (h : slot.Whole) (hrow : row < slot.hs)
    (hcolumn : column < slot.ws) :
    (slot.withPixel row column value).pixel column row = value := by
  obtain ⟨hr, hc, -⟩ := h.pixel_eq hrow hcolumn
  simp [Slot.pixel, Slot.withPixel, setPixel_eq hr, hr, hc]

theorem Slot.pixel_withPixel_other {row' column' : Nat}
    (hother : ¬(row' = row ∧ column' = column)) :
    (slot.withPixel row' column' value).pixel column row = slot.pixel column row := by
  by_cases hr : row' < slot.rows.length
  · simp only [Slot.pixel, Slot.withPixel, setPixel_eq hr, List.getElem?_set]
    by_cases hrow : row' = row
    · subst row'
      have hcolumn : column' ≠ column := fun h => hother ⟨rfl, h⟩
      simp [hr, hcolumn]
    · simp [hrow]
  · simp [Slot.withPixel, setPixel, hr]

end

/-! ## Writing every listed pixel (R72) -/

/-- A slot with one listed pixel repaired from the raster of `source`. -/
def Slot.repair (slot : Slot) (list : List DefectEntry) (source : Slot) (e : DefectEntry) : Slot :=
  match substitute list source e with
  | none => slot
  | some v => slot.withPixel e.row e.column v

/-- Whether an entry lies within the raster (R71). -/
def DefectEntry.Within (e : DefectEntry) (slot : Slot) : Prop :=
  e.row < slot.hs ∧ e.column < slot.ws

section
variable {list entries : List DefectEntry} {source slot : Slot} {e : DefectEntry}

theorem DefectEntry.within_repair (d : DefectEntry) :
    d.Within (slot.repair list source e) ↔ d.Within slot := by
  unfold Slot.repair
  split <;> rfl

theorem Slot.Whole.repair (h : slot.Whole) (he : e.Within slot) :
    (slot.repair list source e).Whole := by
  unfold Slot.repair
  split
  · exact h
  · exact h.withPixel he.1

/-- The pixel repaired takes its substitute, if it has one. -/
theorem Slot.Whole.pixel_repair_same (h : slot.Whole) (he : e.Within slot) :
    (slot.repair list source e).pixel e.column e.row
      = (substitute list source e).getD (slot.pixel e.column e.row) := by
  unfold Slot.repair
  split
  · rename_i hs
    rw [hs]
    rfl
  · rename_i hs
    rw [hs, h.pixel_withPixel_same he.1 he.2]
    rfl

theorem Slot.pixel_repair_other {row column : Nat} (h : ¬(e.row = row ∧ e.column = column)) :
    (slot.repair list source e).pixel column row = slot.pixel column row := by
  unfold Slot.repair
  split
  · rfl
  · exact Slot.pixel_withPixel_other h

/-- The repaired raster, entry by entry. -/
theorem repairedRows_eq_foldl (list : List DefectEntry) (slot : Slot) :
    ({ slot with rows := repairedRows list slot } : Slot)
      = (listedPixels list slot).foldl (fun x e => x.repair list slot e) slot := by
  refine (List.foldl_hom (fun rows => ({ slot with rows } : Slot)) fun rows e => ?_).symm
  unfold Slot.repair
  cases substitute list slot e <;> rfl

theorem foldl_repair_whole (h : slot.Whole) (hwithin : ∀ d ∈ entries, d.Within slot) :
    let out := entries.foldl (fun x d => x.repair list source d) slot
    out.Whole ∧ out.hs = slot.hs ∧ out.ws = slot.ws := by
  induction entries generalizing slot with
  | nil => exact ⟨h, rfl, rfl⟩
  | cons d rest ih =>
    obtain ⟨hd, hrest⟩ := List.forall_mem_cons.mp hwithin
    have hsize : (slot.repair list source d).hs = slot.hs
        ∧ (slot.repair list source d).ws = slot.ws := by
      unfold Slot.repair
      split <;> exact ⟨rfl, rfl⟩
    obtain ⟨hwhole, hhs, hws⟩ := ih (slot := slot.repair list source d) (h.repair hd)
      fun x hx => (DefectEntry.within_repair x).mpr (hrest x hx)
    exact ⟨hwhole, hhs.trans hsize.1, hws.trans hsize.2⟩

/-- A pixel no entry names stays as it is. -/
theorem pixel_foldl_repair_unlisted {row column : Nat} (h : Unlisted entries row column) :
    (entries.foldl (fun x d => x.repair list source d) slot).pixel column row
      = slot.pixel column row := by
  induction entries generalizing slot with
  | nil => rfl
  | cons d rest ih =>
    obtain ⟨hd, hrest⟩ := List.forall_mem_cons.mp h
    rw [List.foldl_cons, ih hrest, Slot.pixel_repair_other hd]

/-- In order, each pixel listed is written once, whatever else is. -/
theorem pixel_foldl_repair_listed (h : slot.Whole) (hordered : entries.Pairwise DefectEntry.Before)
    (hwithin : ∀ d ∈ entries, d.Within slot) (he : e ∈ entries) :
    (entries.foldl (fun x d => x.repair list source d) slot).pixel e.column e.row
      = (substitute list source e).getD (slot.pixel e.column e.row) := by
  induction entries generalizing slot with
  | nil => cases he
  | cons d rest ih =>
    obtain ⟨hd, hrest⟩ := List.forall_mem_cons.mp hwithin
    obtain ⟨hbefore, hordered⟩ := List.pairwise_cons.mp hordered
    rw [List.foldl_cons]
    rcases List.mem_cons.mp he with rfl | he
    · rw [pixel_foldl_repair_unlisted fun x hx hat => ?_, h.pixel_repair_same hd]
      have := hbefore x hx
      unfold DefectEntry.Before at this
      omega
    · have hother : ¬(d.row = e.row ∧ d.column = e.column) := by
        have := hbefore e he
        unfold DefectEntry.Before at this
        omega
      rw [ih (h.repair hd) hordered (fun x hx => (DefectEntry.within_repair x).mpr (hrest x hx)) he,
        Slot.pixel_repair_other hother]

/-! ## Neighbours and substitutes (TABLE 4-4, R71, R72) -/

theorem mem_listedPixels : e ∈ listedPixels list slot ↔ e ∈ list ∧ e.Within slot := by
  simp [listedPixels, DefectEntry.Within]

theorem listedPixels_ordered (h : list.Pairwise DefectEntry.Before) :
    (listedPixels list slot).Pairwise DefectEntry.Before :=
  h.filter _

/-- The neighbours a method names: those of the row unless it is V, those of the column unless it is
H. -/
theorem namedNeighbours_eq (method : Method) (row column : Nat) :
    namedNeighbours method row column =
      (if method = .v then []
        else (if column = 0 then [] else [(row, column - 1)]) ++ [(row, column + 1)])
      ++ (if method = .h then []
        else (if row = 0 then [] else [(row - 1, column)]) ++ [(row + 1, column)]) := by
  cases method <;> simp [namedNeighbours]

theorem substitute_eq (list : List DefectEntry) (slot : Slot) (e : DefectEntry) :
    substitute list slot e =
      if usableNeighbours list slot e = [] then none
      else some (roundedMean ((usableNeighbours list slot e).map fun n => slot.pixel n.2 n.1)) := by
  unfold substitute
  split
  · rename_i h
    rw [if_pos h]
  · rename_i h
    rw [if_neg h]

end

/-- Settles O39: the listed pixels in the raster are written one after another, each from the raster
before substitution, and no coordinate is listed twice. -/
theorem defectsAreRepairedFromNeighbours : Obligations.DefectsAreRepairedFromNeighbours := by
  intro list slot hordered hheight hwidth out usable
  have hwhole : slot.Whole := ⟨hheight, hwidth⟩
  have hout : out = (listedPixels list slot).foldl (fun x e => x.repair list slot e) slot :=
    repairedRows_eq_foldl list slot
  have hwithin : ∀ e ∈ listedPixels list slot, e.Within slot :=
    fun e he => (mem_listedPixels.mp he).2
  have husable (e : DefectEntry) : usableNeighbours list slot e = usable e := by
    rw [usableNeighbours, namedNeighbours_eq]
    refine List.filter_congr fun n _ => ?_
    rw [Bool.eq_iff_iff]
    simp [← Bool.not_eq_true, hasDefect_iff, and_assoc]
  obtain ⟨⟨hrows, hcolumns⟩, hhs, hws⟩ :=
    foldl_repair_whole (list := list) (source := slot) hwhole hwithin
  rw [← hout] at hrows hcolumns hhs hws
  refine ⟨hrows, hcolumns, fun row column hrow hcolumn h => ?other,
    fun e he hrow hcolumn => ?listed, ?repaired⟩
  case other =>
    rw [hout]
    exact pixel_foldl_repair_unlisted fun e he => h e (mem_listedPixels.mp he).1
  case listed =>
    intro near
    rw [hout, pixel_foldl_repair_listed hwhole (listedPixels_ordered hordered) hwithin
      (mem_listedPixels.mpr ⟨he, hrow, hcolumn⟩), substitute_eq, husable]
    have hempty : near = [] ↔ usable e = [] := List.map_eq_nil_iff
    by_cases hnone : usable e = []
    · rw [if_pos hnone, if_pos (hempty.mpr hnone)]
      rfl
    · rw [if_neg hnone, if_neg (mt hempty.mp hnone)]
      rfl
  case repaired =>
    rw [repairedPixels, listedPixels, List.filter_filter]
    refine List.filter_congr fun e _ => ?_
    rw [substitute_eq, husable]
    by_cases hnone : usable e = [] <;> simp [hnone]

end Sys2Proof.Machine

/-! PROOFS. What keeps the counters, the head position, P and the skip tally in their ranges and the
ALERT line as R139 gives it, block by block; each operation of the block that touches them. -/

namespace Sys2Proof.Machine

/-! ## The invariant by block -/

/-- Every counter within 32 bits (R171). -/
def Counters.Bounded (c : Counters) : Prop :=
  ∀ n ∈ c.toList, n ≤ 4294967295

/-- The counters bounded, the head position a number 1..4 or UNASSIGNED (R161, R171). -/
structure LinkUnit.InRange (l : LinkUnit) : Prop where
  counters : l.counters.Bounded
  position : ∀ p, l.position = some p → 1 ≤ p ∧ p ≤ 4

/-- P within its limits and the skip tally within a byte (R85, TABLE 5-1). -/
structure PositionUnit.InRange (u : PositionUnit) : Prop where
  p : -2147483647 ≤ u.p ∧ u.p ≤ 2147483647
  skipTally : u.skipTally ≤ 255

/-- The open count and the sense progress of a segment in range (R130, R131). -/
def SegmentGuard.InRange (g : SegmentGuard) : Prop :=
  g.openCount ≤ 1 ∧ g.progress ≤ 960

/-- What Lamp Protection holds in range, the ALERT line aside (TABLE 7-1). -/
structure LampProtection.InRange (g : LampProtection) : Prop where
  temperature : -40 ≤ g.temperature ∧ g.temperature ≤ 150
  segments : ∀ i, (g.segments.get i).InRange

/-- Every block in range, while the ALERT line may still have to be judged afresh. -/
structure State.InRange (s : State) : Prop where
  link : s.link.InRange
  position : s.position.InRange
  guard : s.guard.InRange

/-- Every block in range and the ALERT line at its level (R139). -/
structure State.Ranged (s : State) : Prop extends s.InRange where
  alert : s.guard.alert = alertLevel s.params s.guard

/-- The level of the ALERT line, case by case (R139). -/
theorem alertLevel_iff (params : Parameters) (g : LampProtection) :
    alertLevel params g = true ↔
      g.thermal = .shutdown ∨ g.shut = true ∨ (g.warn = true ∧ params.thermalReport = .alert)
        ∨ (∃ i, (g.segments.get i).faulted = true) ∧ params.ledFaultReport = .alert := by
  simp [alertLevel, LampProtection.anyFault, Eight.any_iff, or_assoc]

theorem State.ranged_iff (s : State) : s.Ranged ↔ s.RangesSound ∧ s.GuardSound := by
  have halert : s.guard.alert = alertLevel s.params s.guard ↔
      (s.guard.alert = true ↔ alertLevel s.params s.guard = true) := Bool.eq_iff_iff
  rw [alertLevel_iff] at halert
  constructor
  · rintro ⟨⟨⟨hcounters, hhead⟩, ⟨hp, htally⟩, htemperature, hsegments⟩, ha⟩
    exact ⟨⟨hcounters, hhead, hp, htally⟩, htemperature, hsegments, halert.mp ha⟩
  · rintro ⟨⟨hcounters, hhead, hp, htally⟩, htemperature, hsegments, ha⟩
    exact ⟨⟨⟨hcounters, hhead⟩, ⟨hp, htally⟩, htemperature, hsegments⟩, halert.mpr ha⟩

/-! ## Counters (R171) -/

theorem satAdd_le (top a b : Nat) : satAdd top a b ≤ top :=
  Nat.min_le_left ..

theorem bump_le (n x : Nat) : bump n x ≤ 4294967295 :=
  satAdd_le ..

/-- The eleven counters one by one (TABLE 10-4). -/
theorem Counters.bounded_iff (c : Counters) : c.Bounded ↔
    c.sourceSkipped ≤ 4294967295 ∧ c.unsolicitedFrames ≤ 4294967295
      ∧ c.sourceLinesAdjusted ≤ 4294967295 ∧ c.odoGlitches ≤ 4294967295
      ∧ c.triggerOverruns ≤ 4294967295 ∧ c.sensorTimeouts ≤ 4294967295
      ∧ c.tetherCellErrors ≤ 4294967295 ∧ c.chainCellErrors ≤ 4294967295
      ∧ c.downForwardDiscards ≤ 4294967295 ∧ c.upForwardDiscards ≤ 4294967295
      ∧ c.replyDropped ≤ 4294967295 := by
  simp [Counters.Bounded, Counters.toList]

namespace Counters.Bounded
variable {c : Counters} (h : c.Bounded)
include h

theorem cellError (p : PortId) : (c.cellError p).Bounded := by
  cases p <;> simp_all [Counters.bounded_iff, Counters.cellError, bump_le]

theorem downDiscard (n : Nat) : (c.downDiscard n).Bounded := by
  simp_all [Counters.bounded_iff, Counters.downDiscard, bump_le]

theorem dropReply : c.dropReply.Bounded := by
  simp_all [Counters.bounded_iff, Counters.dropReply, bump_le]

theorem cutShort (p : PortId) (midCell : Bool) : (c.cutShort p midCell).Bounded := by
  unfold Counters.cutShort
  split
  · exact h.cellError p
  · exact h

end Counters.Bounded

/-! ## The Link Unit (Chapters 8 and 9) -/

namespace LinkUnit.InRange
variable {l m : LinkUnit}

/-- Only the counters and the head position matter. -/
theorem of_eq (h : l.InRange) (hcounters : m.counters = l.counters)
    (hposition : m.position = l.position) : m.InRange where
  counters := hcounters ▸ h.counters
  position := hposition ▸ h.position

theorem of_kept (h : l.InRange) (hk : l.KeptBy m) : m.InRange := by
  obtain ⟨-, -, hposition, -, -, -, -, hcounters, -⟩ := hk
  exact h.of_eq hcounters hposition

/-- A counter advanced stays bounded. -/
theorem count (h : l.InRange) {c : Counters} (hc : c.Bounded) :
    { l with counters := c }.InRange :=
  ⟨hc, h.position⟩

theorem judgeDownHold (h : l.InRange) : l.judgeDownHold.InRange := by
  unfold LinkUnit.judgeDownHold
  split
  · exact h.of_eq rfl rfl
  · split
    · exact h.of_eq rfl rfl
    · exact h

theorem judgeUpHold (h : l.InRange) : l.judgeUpHold.InRange := by
  unfold LinkUnit.judgeUpHold
  split
  · exact h.of_eq rfl rfl
  · split
    · exact h.of_eq rfl rfl
    · exact h

theorem setPort (h : l.InRange) (p : PortId) (x : Port) : (l.setPort p x).InRange := by
  cases p <;> exact h.of_eq rfl rfl

theorem forwardDown (h : l.InRange) (c : Cell) : (l.forwardDown c).InRange := by
  unfold LinkUnit.forwardDown
  split
  · exact judgeDownHold (h.of_eq (by rfl) (by rfl))
  · exact h.count (h.counters.downDiscard 1)

theorem forwardUp (h : l.InRange) (c : Cell) : (l.forwardUp c).InRange := by
  unfold LinkUnit.forwardUp
  split
  · exact judgeUpHold (h.of_eq (by rfl) (by rfl))
  · have hc := (Counters.bounded_iff _).mp h.counters
    exact h.count ((Counters.bounded_iff _).mpr (by simp [hc, bump_le]))

theorem flushCell (h : l.InRange) (c : Cell) : (l.flushCell c).InRange := by
  unfold LinkUnit.flushCell
  split
  · split
    · exact h.of_eq rfl rfl
    · exact h.count h.counters.dropReply
  · exact h.count (h.counters.downDiscard 1)

theorem flushCells (h : l.InRange) (cells : List Cell) :
    (cells.foldl LinkUnit.flushCell l).InRange := by
  induction cells generalizing l with
  | nil => exact h
  | cons c rest ih => exact ih (h.flushCell c)

theorem flushDown (h : l.InRange) : l.flushDown.InRange := by
  have hflushed : (l.downForward.foldl LinkUnit.flushCell { l with downForward := [] }).InRange :=
    flushCells (h.of_eq (by rfl) (by rfl)) _
  exact hflushed.of_eq rfl rfl

theorem portLost (h : l.InRange) (p : PortId) (midCell : Bool) : (l.portLost p midCell).InRange := by
  have hcut := (h.setPort p (l.port p).lost).count (h.counters.cutShort p midCell)
  cases p with
  | tether => exact hcut
  | chain => exact hcut.flushDown

/-- A head position that a ROLL CALL of count 0..3 assigns (R162). -/
theorem setHead (h : l.InRange) {n : Nat} (hn : n < 4) :
    { l with position := some (n + 1) }.InRange := by
  refine ⟨h.counters, fun p hp => ?_⟩
  cases hp
  omega

theorem unassigned (h : l.InRange) : { l with position := none }.InRange :=
  ⟨h.counters, fun _ hp => by cases hp⟩

end LinkUnit.InRange

/-! ## Lamp Protection (Chapter 7) -/

/-- The ALERT line goes by the thermal state, its latches and the faulted segments alone (R139). -/
theorem alertLevel_congr {params : Parameters} {g k : LampProtection}
    (hthermal : k.thermal = g.thermal) (hwarn : k.warn = g.warn) (hshut : k.shut = g.shut)
    (hfaulted : ∀ i, (k.segments.get i).faulted = (g.segments.get i).faulted) :
    alertLevel params k = alertLevel params g := by
  rw [Bool.eq_iff_iff, alertLevel_iff, alertLevel_iff]
  simp only [hthermal, hwarn, hshut, hfaulted]

/-- Sense progress stops short of the close of the sense window (R130). -/
theorem SegmentGuard.InRange.progressAt {g : SegmentGuard} (h : g.InRange) (n elapsed : Nat)
    (d : SegmentDrive) : (Machine.progressAt n elapsed g d).InRange := by
  obtain ⟨hcount, hprogress⟩ := h
  unfold Machine.progressAt
  split
  · exact ⟨hcount, hprogress⟩
  · have hlast : Config.senseSteps - 1 ≤ 960 := by decide
    exact ⟨hcount, Nat.max_le.mpr ⟨hprogress, (Nat.min_le_left ..).trans hlast⟩⟩

theorem SegmentGuard.faulted_progressAt (g : SegmentGuard) (n elapsed : Nat) (d : SegmentDrive) :
    (progressAt n elapsed g d).faulted = g.faulted := by
  rw [progressAt_eq]
  rfl

/-- The tests of a sense window leave an open count of at most 1 and its full progress (R130, R131). -/
theorem SegmentGuard.tested_inRange (g : SegmentGuard) (response : FaultResponse)
    (peakCurrent voltage : Nat) : (g.tested response peakCurrent voltage).InRange := by
  refine ⟨?_, Nat.le_refl _⟩
  simp only [SegmentGuard.tested]
  split
  · exact Nat.le_refl 1
  · exact Nat.zero_le 1

/-- A sense window that finds neither an open nor a shorted string sets no latch (R131, R132). -/
theorem SegmentGuard.faulted_tested {g : SegmentGuard} {response : FaultResponse}
    {peakCurrent voltage : Nat} (h : (g.findsOpen peakCurrent || findsShort voltage) = false) :
    (g.tested response peakCurrent voltage).faulted = g.faulted := by
  rw [Bool.or_eq_false_iff] at h
  simp [SegmentGuard.tested, SegmentGuard.faulted, h.1, h.2]

/-- One segment replaced by one in range. -/
theorem LampProtection.InRange.setSegment {g : LampProtection} (h : g.InRange) (i : Fin 8)
    {x : SegmentGuard} (hx : x.InRange) : { g with segments := g.segments.set i x }.InRange := by
  refine ⟨h.temperature, fun j => ?_⟩
  simp only [Eight.get_set]
  split
  · exact hx
  · exact h.segments j

/-! ## Changes of one block -/

namespace State.InRange
variable {s : State} (h : s.InRange)
include h

theorem setLamps (x : IlluminationUnit) : (s.setLamps x).InRange :=
  ⟨h.link, h.position, h.guard⟩

theorem setGuard {g : LampProtection} (hg : g.InRange) : (s.setGuard g).InRange :=
  ⟨h.link, h.position, hg⟩

/-- The ALERT line judged afresh is at its level (R139). -/
theorem judged : (s.setGuard (s.guard.judged s.params)).Ranged :=
  ⟨h.setGuard ⟨h.guard.temperature, h.guard.segments⟩, rfl⟩

/-- New parameters with the ALERT line judged by them (R139). -/
theorem setParamsJudged (p : Parameters) : (s.setParamsJudged p).Ranged :=
  ⟨⟨h.link, h.position, h.guard.temperature, h.guard.segments⟩, rfl⟩

end State.InRange

namespace State.Ranged
variable {s : State} (h : s.Ranged)
include h

/-! The other blocks, the clock and the model's own fields do not matter. -/

theorem setNow (n : Nat) : (s.setNow n).Ranged :=
  ⟨⟨h.link, h.position, h.guard⟩, h.alert⟩

theorem setFreeIndex (n : Nat) : (s.setFreeIndex n).Ranged :=
  ⟨⟨h.link, h.position, h.guard⟩, h.alert⟩

theorem setPending (l : List Instr) : { s with pending := l }.Ranged :=
  ⟨⟨h.link, h.position, h.guard⟩, h.alert⟩

theorem setIntake (x : SensorIntake) : (s.setIntake x).Ranged :=
  ⟨⟨h.link, h.position, h.guard⟩, h.alert⟩

theorem setSlots (x : SlotPool) : (s.setSlots x).Ranged :=
  ⟨⟨h.link, h.position, h.guard⟩, h.alert⟩

theorem setEngine (x : WarpEngine) : (s.setEngine x).Ranged :=
  ⟨⟨h.link, h.position, h.guard⟩, h.alert⟩

theorem setViews (x : ViewBankStore) : (s.setViews x).Ranged :=
  ⟨⟨h.link, h.position, h.guard⟩, h.alert⟩

theorem setLamps (x : IlluminationUnit) : (s.setLamps x).Ranged :=
  ⟨⟨h.link, h.position, h.guard⟩, h.alert⟩

theorem setLink {l : LinkUnit} (hl : l.InRange) : (s.setLink l).Ranged :=
  ⟨⟨hl, h.position, h.guard⟩, h.alert⟩

theorem count {f : Counters → Counters} (hf : (f s.link.counters).Bounded) : (s.count f).Ranged :=
  h.setLink (h.link.count hf)

theorem latch (ks : List EventKind) : (s.latch ks).Ranged where
  link := h.link.of_kept (s.latch_kept ks)
  position := by simpa using h.position
  guard := by simpa using h.guard
  alert := by simpa using h.alert

theorem placeReply (tag number : Byte) (a : Answer) : (s.placeReply tag number a).Ranged :=
  h.setLink (h.link.of_eq rfl rfl)

/-- P and the skip tally stay in the unit. -/
theorem setPosition {u : PositionUnit} (hp : u.p = s.position.p)
    (htally : u.skipTally = s.position.skipTally) : (s.setPosition u).Ranged :=
  ⟨⟨h.link, ⟨hp ▸ h.position.p, htally ▸ h.position.skipTally⟩, h.guard⟩, h.alert⟩

/-- A skip tally set anew. -/
theorem setTally {u : PositionUnit} (htally : u.skipTally ≤ 255)
    (hp : u.p = s.position.p) : (s.setPosition u).Ranged :=
  ⟨⟨h.link, ⟨hp ▸ h.position.p, htally⟩, h.guard⟩, h.alert⟩

/-- A change of Lamp Protection that leaves what the ALERT line goes by. -/
theorem setGuard {g : LampProtection}
    (hsegments : ∀ i, (g.segments.get i).InRange
      ∧ (g.segments.get i).faulted = (s.guard.segments.get i).faulted)
    (htemperature : -40 ≤ g.temperature ∧ g.temperature ≤ 150)
    (hthermal : g.thermal = s.guard.thermal) (hwarn : g.warn = s.guard.warn)
    (hshut : g.shut = s.guard.shut) (halert : g.alert = s.guard.alert) :
    (s.setGuard g).Ranged where
  link := h.link
  position := h.position
  guard := ⟨htemperature, fun i => (hsegments i).1⟩
  alert := by
    refine halert.trans (h.alert.trans ?_)
    exact (alertLevel_congr hthermal hwarn hshut fun i => (hsegments i).2).symm

/-- The segments as they stand, for `setGuard`. -/
theorem segments (i : Fin 8) : (s.guard.segments.get i).InRange
    ∧ (s.guard.segments.get i).faulted = (s.guard.segments.get i).faulted :=
  ⟨h.guard.segments i, rfl⟩

/-- The probe and the moments of sample and probe are all else that Lamp Protection holds. -/
theorem setProbe (probe : ProbeState) (lastSample probeStart : Nat) (results : Eight ProbeResult) :
    (s.setGuard { s.guard with probe, lastSample, probeStart, results }).Ranged :=
  h.setGuard h.segments h.guard.temperature rfl rfl rfl rfl

/-- A change of the parameters that leaves the two reports. -/
theorem setParams {p : Parameters} (hthermal : p.thermalReport = s.params.thermalReport)
    (hfault : p.ledFaultReport = s.params.ledFaultReport) : (s.setParams p).Ranged where
  toInRange := ⟨h.link, h.position, h.guard⟩
  alert := by
    rw [Bool.eq_iff_iff, alertLevel_iff, setParams_params, setParams_guard, hthermal, hfault,
      h.alert, alertLevel_iff]

theorem advanceTo (n : Nat) : (s.advanceTo n).Ranged := by
  have hadvanced : ((s.setNow (max s.now n)).setGuard (s.guard.progressed (max s.now n) s.position s.lamps)).Ranged := by
    have hkept := s.guard.progressed_eq (max s.now n) s.position s.lamps
    refine (h.setNow _).setGuard (fun i => ?_) ?_ ?_ ?_ ?_ ?_
    · unfold LampProtection.progressed
      split
      · exact h.segments i
      · rw [Eight.get_build]
        exact ⟨(h.guard.segments i).progressAt .., SegmentGuard.faulted_progressAt ..⟩
    · rw [hkept]
      exact h.guard.temperature
    all_goals
      rw [hkept]
      rfl
  exact hadvanced

end State.Ranged

/-! ## Lamp Protection's operations (Chapter 7) -/

namespace State.InRange
variable {s : State} (h : s.InRange)
include h

theorem markExposure (f : FrameRecord → FrameRecord) : (s.markExposure f).InRange := by
  refine ⟨by simpa using h.link, ?_, by simpa using h.guard⟩
  rcases s.markExposure_cases f with hkept | ⟨r, -, hmarked⟩ | ⟨i, hslots⟩
  · rw [hkept]
    exact h.position
  · rw [hmarked]
    exact ⟨h.position.p, h.position.skipTally⟩
  · rw [hslots]
    exact h.position

/-- A detection judges the ALERT line by the latch just set (R134). -/
theorem detect (i : Fin 8) : (s.detect i).Ranged := by
  simp only [State.detect]
  exact ((h.markExposure _).setLamps _).judged.latch _

theorem cutWindow : s.cutWindow.InRange := by
  unfold State.cutWindow
  split
  · exact h
  · have hdark : s.guard.blackout.InRange := by
      refine ⟨h.guard.temperature, fun i => ?_⟩
      simp only [LampProtection.blackout, Eight.get_map]
      exact h.guard.segments i
    exact State.InRange.markExposure (h.setGuard hdark) _

/-- A change of thermal state judges the ALERT line by it and by the latches it sets (R137). -/
theorem enterThermal (thermal : Thermal) : (s.enterThermal thermal).Ranged := by
  simp only [State.enterThermal]
  set latched := s.setGuard { s.guard with
    thermal := thermal
    warn := s.guard.warn || decide (thermal = .derate)
    shut := s.guard.shut || decide (thermal = .shutdown) }
  have hlatched : latched.InRange := h.setGuard ⟨h.guard.temperature, h.guard.segments⟩
  have hcut : (if thermal = .shutdown then latched.cutWindow else latched).InRange := by
    split
    · exact hlatched.cutWindow
    · exact hlatched
  have hlamps {t : State} (ht : t.InRange) :
      (if thermal = .normal then t else t.setLamps t.lamps.abortTunes).InRange := by
    split
    · exact ht
    · exact ht.setLamps _
  exact (hlamps hcut).judged.latch _

end State.InRange

namespace State.Ranged
variable {s : State} (h : s.Ranged)
include h

/-- A sample is held within -40..150 (R136). -/
theorem sampled (temperature : Int) : (s.sampled temperature).Ranged := by
  have hclamped : -40 ≤ clampInt (-40) 150 temperature ∧ clampInt (-40) 150 temperature ≤ 150 := by
    unfold clampInt
    omega
  have hheld := h.setGuard (g := { s.guard with temperature := clampInt (-40) 150 temperature })
    h.segments hclamped rfl rfl rfl rfl
  simp only [State.sampled]
  split
  · exact hheld
  · exact hheld.enterThermal _

theorem closeSense (i : Fin 8) (peakCurrent voltage : Nat) :
    (s.closeSense i peakCurrent voltage).Ranged := by
  have htested := (s.guard.segments.get i).tested_inRange s.params.ledFaultResponse peakCurrent voltage
  have hset := h.guard.setSegment i htested
  simp only [State.closeSense]
  split
  · exact (h.toInRange.setGuard hset).detect i
  · rename_i hnothing
    refine h.setGuard (fun j => ⟨hset.segments j, ?_⟩) h.guard.temperature rfl rfl rfl rfl
    simp only [Eight.get_set]
    split
    · rename_i hj
      rw [hj, SegmentGuard.faulted_tested (Bool.eq_false_iff.mpr hnothing)]
    · rfl

theorem overcurrent (i : Fin 8) : ((s.setGuard { s.guard with
    segments := s.guard.segments.set i (s.guard.segments.get i).overcurrent }).detect i).Ranged := by
  have hover : (s.guard.segments.get i).overcurrent.InRange := h.guard.segments i
  exact (h.toInRange.setGuard (h.guard.setSegment i hover)).detect i

/-- A window that opens restarts the sense progress and keeps the latches (R130). -/
theorem windowOpened : (s.setGuard s.guard.windowOpened).Ranged := by
  rw [LampProtection.windowOpened_eq]
  refine h.setGuard (fun i => ?_) h.guard.temperature rfl rfl rfl rfl
  simp only [Eight.get_map]
  exact ⟨⟨(h.guard.segments i).1, Nat.zero_le _⟩, rfl⟩

theorem windowClosed : (s.setGuard s.guard.windowClosed).Ranged := by
  refine h.setGuard (fun i => ?_) h.guard.temperature rfl rfl rfl rfl
  simp only [LampProtection.windowClosed, Eight.get_map]
  exact h.segments i

theorem startProbe : s.startProbe.Ranged :=
  h.setProbe ..

theorem startWaitingProbe : s.startWaitingProbe.Ranged := by
  unfold State.startWaitingProbe
  split
  · exact h.startProbe
  · exact h

theorem faultsCleared : (s.setGuard (s.guard.faultsCleared.judged s.params)).Ranged := by
  have hcleared : s.guard.faultsCleared.InRange := by
    refine ⟨h.guard.temperature, fun i => ?_⟩
    simp only [LampProtection.faultsCleared, Eight.get_map]
    exact ⟨Nat.zero_le _, (h.guard.segments i).2⟩
  exact (h.toInRange.setGuard hcleared).judged

/-! ## Triggers and exposures (Chapter 5) -/

theorem startExposure (cause : Cause) (tag : Int) : (s.startExposure cause tag).Ranged := by
  have hunit : (s.setPosition (s.exposingUnit cause tag)).Ranged :=
    h.setPosition rfl rfl
  exact (hunit.setLamps (s.exposedLamps cause)).windowOpened.latch _

theorem pendTrigger (t : Trigger) : (s.pendTrigger t).Ranged := by
  unfold State.pendTrigger
  split
  · exact h.setPosition rfl rfl
  · have hc := (Counters.bounded_iff _).mp h.link.counters
    exact ((h.setPosition (by rfl) (by rfl)).count ((Counters.bounded_iff _).mpr (by simp [hc, bump_le]))).latch _

theorem raiseTrigger (cause : Cause) (tag : Int) : (s.raiseTrigger cause tag).Ranged := by
  unfold State.raiseTrigger
  split
  · exact h.startExposure _ _
  · exact h.pendTrigger _

theorem takeUpNext : s.takeUpNext.Ranged := by
  unfold State.takeUpNext
  split
  · exact h.startExposure _ _
  · split
    · exact h
    · exact (h.setPosition (by rfl) (by rfl)).startExposure _ _

theorem becomeReady : s.becomeReady.Ranged :=
  (h.setPosition (by rfl) (by rfl)).takeUpNext

theorem takeUpArmed (armed : Bool) : (s.takeUpArmed armed).Ranged := by
  unfold State.takeUpArmed
  split
  · exact h.takeUpNext
  · exact h

theorem reportEnd (q : BitVec 16) : (s.reportEnd q).Ranged := by
  unfold State.reportEnd
  split
  · simp only
    split
    · exact (h.setPosition (by rfl) (by rfl)).becomeReady
    · exact h.setPosition rfl rfl
  · exact h

theorem raiseTime : s.raiseTime.Ranged :=
  (h.setPosition (by rfl) (by rfl)).raiseTrigger _ _

theorem raiseIfDue : s.raiseIfDue.Ranged := by
  unfold State.raiseIfDue
  split
  · exact h.raiseTime
  · exact h

theorem enterPark : s.enterPark.Ranged :=
  raiseIfDue ((h.setPosition (by rfl) (by rfl)).latch _)

theorem parkIfPassed : s.parkIfPassed.Ranged := by
  unfold State.parkIfPassed
  split
  · exact h.enterPark
  · exact h

theorem enterDwell : s.enterDwell.Ranged :=
  parkIfPassed (raiseIfDue ((h.setPosition (by rfl) (by rfl)).latch _))

theorem dwellIfPassed : s.dwellIfPassed.Ranged := by
  unfold State.dwellIfPassed
  split
  · exact h.enterDwell
  · exact h

theorem raiseDistance (target : Int) : (s.raiseDistance target).Ranged :=
  (h.setPosition (by rfl) (by rfl)).raiseTrigger _ _

theorem distanceTest : s.distanceTest.Ranged := by
  unfold State.distanceTest
  split
  · exact h.raiseDistance _
  · split
    · exact h.raiseDistance _
    · exact h

theorem creepTest : s.creepTest.Ranged := by
  unfold State.creepTest
  split
  · exact h.raiseDistance _
  · split
    · exact h.raiseDistance _
    · exact h

theorem wakeTest : s.wakeTest.Ranged := by
  unfold State.wakeTest
  split
  · exact (creepTest (h.setPosition (by rfl) (by rfl))).latch _
  · exact h

/-- A count moves P no further than its limits (R85). -/
theorem counted (phase : OdoPhase) : (s.setPosition (s.position.counted phase s.now)).Ranged := by
  refine ⟨⟨h.link, ⟨?_, h.position.skipTally⟩, h.guard⟩, h.alert⟩
  have hlimits (p : Int) (forward : Bool) :
      -2147483647 ≤ movedPosition p forward ∧ movedPosition p forward ≤ 2147483647 := by
    simp only [movedPosition, clampInt, Config.positionLimit]
    omega
  exact hlimits _ _

theorem zeroed : (s.setPosition { s.position with
    p := 0, l := 0, windowStartValue := 0
    restPosition := s.position.restPosition.map fun _ => 0 }).Ranged :=
  ⟨⟨h.link, ⟨by simp, h.position.skipTally⟩, h.guard⟩, h.alert⟩

theorem afterExposure (closed : Bool) : (s.afterExposure closed).Ranged := by
  have hfree : s.takeFree.Ranged := h.setFreeIndex _
  unfold State.afterExposure
  split
  · split
    · unfold State.probeMeetsExposure
      split
      · exact hfree.startProbe.becomeReady
      · exact hfree.becomeReady
    · exact h.startWaitingProbe.becomeReady
  · exact h.startWaitingProbe

theorem exposureLost : s.exposureLost.Ranged := by
  have hc := (Counters.bounded_iff _).mp h.link.counters
  exact (((h.setPosition (by rfl) (by rfl)).count ((Counters.bounded_iff _).mpr (by simp [hc, bump_le]))).latch
    _).becomeReady

/-! ## Frames from the sensor (Chapter 4) -/

theorem lineAdjusted : (s.count Counters.lineAdjusted).Ranged := by
  have hc := (Counters.bounded_iff _).mp h.link.counters
  exact h.count ((Counters.bounded_iff _).mpr (by simp [hc, bump_le, Counters.lineAdjusted]))

theorem frameSkipped : (s.count Counters.frameSkipped).Ranged := by
  have hc := (Counters.bounded_iff _).mp h.link.counters
  exact h.count ((Counters.bounded_iff _).mpr (by simp [hc, bump_le, Counters.frameSkipped]))

theorem fillLine (i : SlotId) (pixels : List (BitVec 12)) : (s.fillLine i pixels).Ranged := by
  have hwritten (r : SlotRow) : (s.writeRow i r).Ranged := (h.setSlots _).setIntake _
  unfold State.fillLine
  split
  · exact h
  · split
    · exact h.lineAdjusted
    · split
      · exact hwritten _
      · exact (hwritten _).lineAdjusted

theorem completeFrame (i : SlotId) (r : FrameRecord) : (s.completeFrame i r).Ranged :=
  (((h.setSlots _).setIntake _).latch _).reportEnd _

theorem voidFrame (i : SlotId) (r : FrameRecord) : (s.voidFrame i r).Ranged := by
  have htallied := ((h.setSlots (s.slots.set i Slot.freed)).setIntake s.intake.frameVoid).setTally
    (u := { s.position with skipTally := satAdd 255 r.skippedBefore 1 }) (satAdd_le ..) rfl
  exact ((htallied.frameSkipped.latch _).reportEnd _).takeUpArmed _

theorem endFrame : s.endFrame.Ranged := by
  unfold State.endFrame
  split
  · exact h
  · unfold State.endFilling
    split
    · exact h.setIntake _
    · split
      · exact h.voidFrame _ _
      · exact h.completeFrame _ _
  · simp only [State.endPassing]
    split
    · exact (h.setIntake _).reportEnd _
    all_goals exact h.setIntake _

theorem beginFrame : s.beginFrame.Ranged := by
  have hc := (Counters.bounded_iff _).mp h.link.counters
  simp only [State.beginFrame]
  split
  · exact ((h.setIntake _).count ((Counters.bounded_iff _).mpr (by simp [hc, bump_le]))).latch _
  · split
    · have htallied (u : SensorIntake) :=
        ((h.setIntake s.intake.editsApplied).setIntake u).setTally
          (u := { s.position with skipTally := satAdd 255 s.position.skipTally 1 }) (satAdd_le ..) rfl
      exact (frameSkipped ((htallied _).setPosition (by rfl) (by rfl))).latch _
    · have htallied (x : SlotPool) (u : SensorIntake) :=
        (((h.setIntake s.intake.editsApplied).setSlots x).setIntake u).setTally
          (u := { s.position with skipTally := 0 }) (Nat.zero_le _) rfl
      exact (htallied _ _).setPosition rfl rfl

end State.Ranged

end Sys2Proof.Machine

/-! PROOFS. Every command and event keeps the ranges and the ALERT line. -/

namespace Sys2Proof.Machine

namespace State.Ranged
variable {s : State} (h : s.Ranged)
include h

/-! ## The frame in hand (Chapter 2) -/

theorem startFrame (t : FrameTake) : (s.startFrame t).Ranged :=
  ((((h.setEngine _).setSlots _).setViews _).setLamps _).latch _

theorem claimPlaces (r : Run) : (s.claimPlaces r).1.Ranged := by
  unfold State.claimPlaces
  split
  · exact h
  · split
    · exact h.setEngine _
    · exact h.setEngine _

theorem placeVideo (cells : List Cell) : (s.placeVideo cells).Ranged :=
  (h.setLink (h.link.of_eq (by rfl) (by rfl))).setEngine _

theorem produce (r : Run) : (s.produce r).Ranged := by
  unfold State.produce
  split
  · exact (h.placeVideo _).setEngine _
  · split
    · exact h
    · exact (h.placeVideo _).setEngine _
  · exact h

theorem statusOccasion : (s.setLink (Machine.statusOccasion s)).Ranged :=
  h.setLink (h.link.of_kept (statusOccasion_kept s))

theorem frameEndStatus : s.frameEndStatus.Ranged := by
  unfold State.frameEndStatus
  split
  · exact h.statusOccasion
  · exact h.setLink h.link

theorem handFrame (record : FrameRecord) (zones : Eight ZoneResult) :
    (s.handFrame record zones).Ranged :=
  (h.setLamps _).latch _

theorem endWarp (r : Run) (record : FrameRecord) : (s.endWarp r record).Ranged := by
  exact ((((h.placeVideo _).setSlots _).handFrame record _).frameEndStatus).setEngine _

theorem endStall : s.endStall.Ranged := by
  unfold State.endStall
  split
  · exact h
  · split
    · exact h.setEngine _
    · exact h

/-! ## Cells, ports and sending (Chapters 8 and 9) -/

theorem cellError (p : PortId) : (s.cellError p).Ranged :=
  h.count (h.link.counters.cellError p)

theorem dropReply : (s.count Counters.dropReply).Ranged :=
  h.count h.link.counters.dropReply

theorem forwardCommand (c : Cell) : (s.forwardCommand c).Ranged := by
  unfold State.forwardCommand
  split
  · exact h.setLink (h.link.forwardDown c)
  · split
    · exact h
    · split
      · exact h.setLink (h.link.of_eq rfl rfl)
      · exact h.dropReply

theorem receiveUpward (c : Cell) : (s.receiveUpward c).Ranged := by
  unfold State.receiveUpward
  split
  · split
    · exact h.setLink (h.link.forwardUp c)
    · exact h.cellError _
  · exact h

/-- A ROLL CALL of count 0..3 gives this head the next position; one of 4 or more leaves it UNASSIGNED
(R162, R163). -/
theorem takeRollCall (c : Cell) : (s.takeRollCall c).Ranged := by
  unfold State.takeRollCall
  split
  · unfold State.overlongRollCall
    split
    · exact h.setLink (h.link.unassigned.of_eq rfl rfl)
    · exact h.dropReply
  · rename_i hcount
    have hset := h.link.setHead (Nat.lt_of_not_le hcount)
    split
    · unfold State.passRollCall
      split
      · exact h.setLink (hset.forwardDown _)
      · exact h.count (h.link.counters.downDiscard 1)
    · unfold State.turnRollCall
      split
      · exact h.setLink (hset.of_eq rfl rfl)
      · exact h.dropReply

theorem portDown (p : PortId) (midCell : Bool) : (s.portDown p midCell).Ranged := by
  unfold State.portDown
  split
  · exact (h.setLink (h.link.portLost p midCell)).latch _
  · exact h

theorem receiveSymbol (p : PortId) (hold : Bool) : (s.receiveSymbol p hold).Ranged := by
  unfold State.receiveSymbol
  split
  · exact h.setLink (h.link.setPort p _)
  · exact h

theorem chooseManagement (c : Cell) (rest : List Cell) : (s.chooseManagement c rest).Ranged := by
  unfold State.chooseManagement State.payStatus
  split
  · exact h.setLink (h.link.of_eq rfl rfl)
  · exact h.setLink (h.link.of_eq rfl rfl)

theorem chooseVideo : s.chooseVideo.Ranged := by
  have hown (c : Cell) (rest : List Cell) : (s.chooseOwn c rest).Ranged :=
    endStall (h.setLink (h.link.of_eq rfl rfl))
  have hforwarded (c : Cell) (rest : List Cell) : (s.chooseForwarded c rest).Ranged :=
    h.setLink (LinkUnit.InRange.judgeUpHold (h.link.of_eq rfl rfl))
  have hnone : (s.setLink (s.link.beginTether none)).Ranged := h.setLink (h.link.of_eq rfl rfl)
  unfold State.chooseVideo
  split
  · exact hown _ _
  · exact hforwarded _ _
  · exact hforwarded _ _
  · exact hown _ _
  · exact hnone
  · exact hnone

/-! ## Commands -/

theorem setChoice {α : Type} {identifier : Byte} {value : Word} {choice : Nat → Option α}
    {store : α → State} (hstore : ∀ x, (store x).Ranged) :
    (Machine.setChoice identifier value choice store s).2.Ranged := by
  unfold Machine.setChoice
  split
  · exact h
  · exact hstore _

theorem ownSetDuty (segment : Byte) (value : Word) : (Machine.ownSetDuty segment value s).2.Ranged := by
  unfold Machine.ownSetDuty
  split
  · exact h
  · exact (h.setLamps _).latch _

theorem ownProbe : (Machine.ownProbe s).2.Ranged := by
  unfold Machine.ownProbe
  split
  · exact h
  · exact h
  · split
    · exact h.setProbe ..
    · exact h.startProbe

theorem ownDarkSurvey : (Machine.ownDarkSurvey s).2.Ranged := by
  unfold Machine.ownDarkSurvey
  split
  · exact (h.setIntake _).takeUpArmed _
  · exact h
  · exact h

/-! The commands of Chapter 3 set the View Bank Store alone, edit commands Sensor Intake alone. -/

theorem ownTableOpen (bank : Byte) (width height fill : BitVec 16) (label : List Byte) :
    (Machine.ownTableOpen bank width height fill label s).2.Ranged := by
  unfold Machine.ownTableOpen
  split
  · exact h
  · split
    · exact h
    · exact h
    · split
      · exact h
      · exact h.setViews _
    · exact h.setViews _
    · exact h.setViews _

theorem ownTableData (used : Byte) (bank part : BitVec 4) (number : BitVec 16)
    (entries : List Byte) : (Machine.ownTableData used bank part number entries s).2.Ranged := by
  unfold Machine.ownTableData
  split
  · unfold loadSegment
    split
    · exact h
    · split
      · exact h
      · split
        · exact h
        · exact h.setViews _
  · exact h
  · exact h

theorem ownTableClose (bank : Byte) : (Machine.ownTableClose bank s).2.Ranged := by
  unfold Machine.ownTableClose
  split
  · exact h
  · split
    · exact h.setViews _
    · exact h

theorem ownCommitView (bank : Byte) : (Machine.ownCommitView bank s).2.Ranged := by
  unfold Machine.ownCommitView
  split
  · exact h
  · split
    · exact h.setViews _
    · exact h.setViews _
    all_goals exact h

theorem acceptEdit (edit : Edit) : (Machine.acceptEdit edit s).2.Ranged :=
  h.setIntake _

theorem ownDefectAdd (row : BitVec 10) (column : BitVec 11) (method : BitVec 2) :
    (Machine.ownDefectAdd row column method s).2.Ranged := by
  unfold Machine.ownDefectAdd
  split
  · exact h
  · split
    · exact h
    · split
      · exact h
      · split
        · exact h
        · split
          · exact h
          · exact h.acceptEdit _

theorem ownDefectRemove (row : BitVec 10) (column : BitVec 11) :
    (Machine.ownDefectRemove row column s).2.Ranged := by
  unfold Machine.ownDefectRemove
  split
  · exact h
  · split
    · exact h
    · split
      · exact h.acceptEdit _
      · exact h

theorem ownDefectClear (originFilter : Byte) : (Machine.ownDefectClear originFilter s).2.Ranged := by
  unfold Machine.ownDefectClear
  split
  · exact h
  · split
    · exact h
    · exact h.acceptEdit _

theorem decodeAnswer (number : Byte) (code : ReplyCode) :
    (Machine.decodeAnswer number code s).2.Ranged := by
  unfold Machine.decodeAnswer
  split
  · exact h
  · exact h

/-- A numbered command keeps the ranges and the ALERT line. -/
theorem ownerOf {i : Instr} {number : Byte} {owner : State → Answer × State}
    (ho : Machine.ownerOf i = some (number, owner)) : (owner s).2.Ranged := by
  cases i with
  | readIdentity | readStatus | readCounters | readZoneStats | readBankInfo | readTableVerdict
  | readDefectEntries | readParameter | readProbeResult | readTemperature => cases ho; exact h
  | setSourceWidth | setSourceHeight | setBlackLevel | setDarkThreshold | setExposure | setBlurLimit
  | setBrightnessTarget | setTuneBand | setReferenceBeta | setTuneHoldoff | setEventMask =>
    cases ho; exact h.setParams rfl rfl
  | setTriggerStep => cases ho; exact setPosition (h.setParams (by rfl) (by rfl)) rfl rfl
  | setDwellTimeout => cases ho; exact dwellIfPassed (h.setParams rfl rfl)
  | setDwellInterval => cases ho; exact raiseIfDue (h.setParams rfl rfl)
  | setParkTimeout => cases ho; exact parkIfPassed (h.setParams rfl rfl)
  | setParkInterval => cases ho; exact raiseIfDue (h.setParams rfl rfl)
  | setWakeDistance => cases ho; exact wakeTest (h.setParams rfl rfl)
  | setAutoRetune | setReportMode | setLedFaultResponse =>
    cases ho; exact h.setChoice fun _ => h.setParams rfl rfl
  | setLedFaultReport | setThermalReport =>
    cases ho; exact h.setChoice fun _ => h.toInRange.setParamsJudged _
  | setLedCycle | reseed => cases ho; exact h.setLamps _
  | setDuty => cases ho; exact h.ownSetDuty ..
  | tune => cases ho; exact (h.setLamps _).latch _
  | tableOpen => cases ho; exact h.ownTableOpen ..
  | tableData => cases ho; exact h.ownTableData ..
  | tableClose => cases ho; exact h.ownTableClose ..
  | commitView => cases ho; exact h.ownCommitView ..
  | rawView => cases ho; exact h.setViews _
  | defectAdd => cases ho; exact h.ownDefectAdd ..
  | defectRemove => cases ho; exact h.ownDefectRemove ..
  | defectClear => cases ho; exact h.ownDefectClear ..
  | darkSurvey => cases ho; exact h.ownDarkSurvey
  | probe => cases ho; exact h.ownProbe
  | snap => cases ho; exact h.raiseTrigger ..
  | zeroOdometer => cases ho; exact h.zeroed.wakeTest
  | clearFaults => cases ho; exact h.faultsCleared
  | ackReset => cases ho; exact h.setLink (h.link.of_eq rfl rfl)
  | _ => cases ho

/-! ## Consumed commands and command cells -/

/-- A consumed command keeps what its owner keeps, or is discarded and counted (R167). -/
theorem consume {tag number : Byte} {owner : State → Answer × State}
    (ho : ∀ {u : State}, u.Ranged → (owner u).2.Ranged) :
    (Machine.consume tag number owner s).Ranged := by
  have hheld : s.holdReplyPlace.Ranged := h.setLink (h.link.of_eq rfl rfl)
  unfold Machine.consume
  split
  · exact (ho hheld).placeReply _ _ _
  · exact h.dropReply

/-- RESTART abandons sensing and keeps the fault latches (R145). -/
theorem guardRestarted : (s.setGuard s.guard.restarted).Ranged := by
  rw [LampProtection.restarted_eq]
  refine h.setGuard (fun i => ?_) h.guard.temperature rfl rfl rfl rfl
  simp only [Eight.get_map]
  exact ⟨⟨(h.guard.segments i).1, Nat.zero_le _⟩, rfl⟩

/-- RESTART keeps the counters, the head position and P (R108, R160). -/
theorem restarted : s.restarted.Ranged := by
  have hblocks := ((((h.setEngine s.engine.restarted).setIntake s.intake.restarted).setSlots
    SlotPool.reset).setViews s.views.restarted).setPosition (u := s.position.restarted) rfl rfl
  exact setLink (hblocks.setLamps s.lamps.restarted).guardRestarted (h.link.of_eq rfl rfl)

theorem executeRestart (tag : Byte) : (s.executeRestart tag).Ranged :=
  h.restarted.placeReply _ _ _

theorem executeCell (c : Cell) : (s.executeCell c).Ranged := by
  unfold State.executeCell
  split
  · exact h.executeRestart _
  · split
    · exact h.consume fun hu => hu.ownerOf ‹_›
    · exact h
  · exact h.consume fun hu => hu.decodeAnswer _ _

theorem routeCommand (c : Cell) : (s.routeCommand c).Ranged := by
  unfold State.routeCommand
  split
  · exact (h.executeCell c).forwardCommand c
  · split
    · exact h.executeCell c
    · exact h.forwardCommand c

theorem receiveCommand (c : Cell) : (s.receiveCommand c).Ranged := by
  unfold State.receiveCommand
  split
  · split
    · exact h.routeCommand c
    · exact h.cellError _
  · exact h

theorem acceptCell (p : PortId) (c : Cell) : (s.acceptCell p c).Ranged := by
  unfold State.acceptCell
  split
  · exact h.setLink (h.link.forwardUp c)
  · split
    · exact h.routeCommand c
    · exact h.takeRollCall c

end State.Ranged

/-! ## Every command and event -/

/-- A reset puts every block in range, and the ALERT line at its level (R139, R177). -/
theorem State.reset_ranged : State.reset.Ranged where
  link := ⟨by unfold Counters.Bounded; decide, fun _ hp => by cases hp⟩
  position := ⟨by decide, by decide⟩
  guard := ⟨by decide, fun i => by fin_cases i <;> exact ⟨by decide, by decide⟩⟩
  alert := rfl

theorem State.afterReset_ranged (s : State) (a b : Bool) (temperature : Int) :
    (s.afterReset a b temperature).Ranged := by
  have hphases : (State.reset.setPosition
      { PositionUnit.reset with phaseA := a, phaseB := b }).Ranged :=
    State.reset_ranged.setPosition rfl rfl
  exact ((hphases.setFreeIndex s.freeIndex).setPending s.pending).sampled _

section
variable {s t : State}

/-- What no owner executes: the events, the command cells, RESTART and the resets. -/
theorem exec_ranged_of_ownerOf_none {i : Instr} (ho : ownerOf i = none) (h : s.Ranged) :
    ∃ t, exec i s = .next t ∧ t.Ranged := by
  cases i with
  | powerOnReset | lineReset =>
    exact ⟨_, rfl, s.afterReset_ranged _ _ _⟩
  | restart => exact ⟨_, rfl, h.executeRestart _⟩
  | commandCell => exact ⟨_, rfl, h.receiveCommand _⟩
  | cellError p =>
    refine ⟨_, rfl, ?_⟩
    split
    · split
      · exact h.cellError p
      · exact h.acceptCell p _
    · exact h
  | tableCheckCompletion b =>
    refine ⟨_, rfl, ?_⟩
    split
    · exact h
    · exact (h.setViews _).latch _
  | rollCall =>
    refine ⟨_, rfl, ?_⟩
    split
    · split
      · exact h.takeRollCall _
      · exact h.cellError _
    · exact h
  | upwardCellReceipt => exact ⟨_, rfl, h.receiveUpward _⟩
  | hold | go => exact ⟨_, rfl, h.receiveSymbol _ _⟩
  | portUp =>
    refine ⟨_, rfl, ?_⟩
    split
    · exact h
    · exact (h.setLink (h.link.setPort _ _)).latch _
  | portLockLoss | portSymbolTimeout => exact ⟨_, rfl, h.portDown _ _⟩
  | tetherArbiterChoice =>
    refine ⟨_, rfl, ?_⟩
    split
    · split
      · exact h.chooseManagement _ _
      · exact h.chooseVideo
    · exact h.setLink (h.link.of_eq rfl rfl)
  | chainOutboundSend =>
    refine ⟨_, rfl, ?_⟩
    split
    · split
      · exact h.setLink (LinkUnit.InRange.judgeDownHold (h.link.of_eq rfl rfl))
      · exact h.setLink (h.link.of_eq rfl rfl)
    · exact h.setLink (h.link.of_eq rfl rfl)
  | frameBegin => exact ⟨_, rfl, h.endFrame.beginFrame⟩
  | line pixels =>
    refine ⟨_, rfl, ?_⟩
    split
    · exact h.fillLine _ pixels
    · exact h
    · exact h
  | frameEnd => exact ⟨_, rfl, h.endFrame⟩
  | warpFrameStart =>
    refine ⟨_, rfl, ?_⟩
    split
    · exact h
    · exact h.startFrame _
  | itemProduction =>
    refine ⟨_, rfl, ?_⟩
    split
    · exact h
    · split
      · exact h
      · split
        · exact (h.claimPlaces _).produce _
        · exact h.claimPlaces _
  | warpFrameEnd =>
    refine ⟨_, rfl, ?_⟩
    split
    · exact h
    · split
      · split
        · exact (h.claimPlaces _).endWarp _ _
        · exact h.claimPlaces _
      all_goals exact h
  | odometerCount =>
    refine ⟨_, rfl, ?_⟩
    split
    · exact (h.counted _).distanceTest
    · exact (h.counted _).wakeTest
  | odoGlitch =>
    have hc := (Counters.bounded_iff _).mp h.link.counters
    exact ⟨_, rfl, (h.setPosition (by rfl) (by rfl)).count ((Counters.bounded_iff _).mpr (by simp [hc, bump_le]))⟩
  | speedWindow => exact ⟨_, rfl, (h.advanceTo _).setPosition rfl rfl⟩
  | dwellTimer =>
    refine ⟨_, rfl, ?_⟩
    split
    · exact (h.advanceTo _).enterDwell
    · exact h
  | parkTimer =>
    refine ⟨_, rfl, ?_⟩
    split
    · exact (h.advanceTo _).enterPark
    · exact h
  | timeTrigger =>
    refine ⟨_, rfl, ?_⟩
    split
    · exact h
    · exact (h.advanceTo _).raiseTime
  | exposureEnd =>
    refine ⟨_, rfl, ?_⟩
    split
    · exact h
    · exact (State.Ranged.windowClosed ((h.advanceTo _).setPosition (by rfl) (by rfl))).afterExposure _
  | sensorTimeout =>
    refine ⟨_, rfl, ?_⟩
    split
    · exact h
    · exact ((h.advanceTo _).setPosition (by rfl) (by rfl)).exposureLost
  | readoutLimit =>
    refine ⟨_, rfl, ?_⟩
    split
    · exact h
    · exact (h.advanceTo _).exposureLost
  | senseWindowClose =>
    refine ⟨_, rfl, ?_⟩
    split
    · exact h
    · exact (h.advanceTo _).closeSense _ _ _
  | overcurrent i =>
    refine ⟨_, rfl, ?_⟩
    split
    · exact h.overcurrent i
    · exact h
  | thermalSample =>
    exact ⟨_, rfl, State.Ranged.sampled ((h.advanceTo _).setProbe ..) _⟩
  | probeCompletion =>
    refine ⟨_, rfl, ?_⟩
    split
    · exact State.Ranged.latch ((h.advanceTo _).setProbe ..) _
    · exact h
  | _ => cases ho

/-- Every command and event keeps the ranges and the ALERT line. -/
theorem exec_ranged (i : Instr) (h : s.Ranged) : ∃ t, exec i s = .next t ∧ t.Ranged := by
  cases ho : ownerOf i with
  | none => exact exec_ranged_of_ownerOf_none ho h
  | some owned =>
    obtain ⟨tag, hexec⟩ := exec_of_ownerOf ho s
    exact ⟨_, hexec, h.consume fun hu => hu.ownerOf ho⟩

theorem step_ranged (h : s.Ranged) (hstep : step s = .next t) : t.Ranged := by
  cases hp : s.pending with
  | nil =>
    simp only [step, hp, Host.Outcome.next.injEq] at hstep
    subst hstep
    exact h.advanceTo _
  | cons c rest =>
    obtain ⟨u, hexec, hranged⟩ := exec_ranged c (h.setPending rest)
    simp only [step, hp, hexec, Host.Outcome.next.injEq] at hstep
    exact hstep ▸ hranged

end

/-- Settles O58: the invariant by block is kept by every step. -/
theorem stepsKeepRangesAndAlert : Obligations.StepsKeepRangesAndAlert := by
  intro s t hranges hguard hstep
  exact t.ranged_iff.mp (step_ranged (s.ranged_iff.mpr ⟨hranges, hguard⟩) hstep)

end Sys2Proof.Machine

/-! PROOFS. Triggers, the sequencer and SNAP: a trigger starts an exposure or waits, a report acts on the
current exposure, a READY sequencer takes up what waits; the length of an exposure. -/

namespace Sys2Proof.Machine

/-! ## Triggers (R97, R98) -/

section
variable {s : State}

theorem State.startsAtOnce_iff (s : State) :
    s.startsAtOnce = true ↔ s.position.sequencer = .ready ∧ s.intake.survey ≠ .armed := by
  simp [State.startsAtOnce]

theorem State.startsAtOnce_eq_false_iff (s : State) :
    s.startsAtOnce = false ↔ s.position.sequencer ≠ .ready ∨ s.intake.survey = .armed := by
  rw [← Bool.not_eq_true, State.startsAtOnce_iff, not_and_or, not_not]

theorem State.raiseTrigger_of_ready (hready : s.position.sequencer = .ready)
    (hsurvey : s.intake.survey ≠ .armed) (cause : Cause) (tag : Int) :
    s.raiseTrigger cause tag = s.startExposure cause tag :=
  if_pos (s.startsAtOnce_iff.mpr ⟨hready, hsurvey⟩)

theorem State.raiseTrigger_of_waits (h : s.position.sequencer ≠ .ready ∨ s.intake.survey = .armed)
    (cause : Cause) (tag : Int) : s.raiseTrigger cause tag = s.pendTrigger { cause, tag } := by
  rw [State.raiseTrigger, s.startsAtOnce_eq_false_iff.mpr h]
  rfl

/-- The only trigger waiting takes the pending place. -/
theorem State.pendTrigger_of_none (h : s.position.pendingTrigger = none) (t : Trigger) :
    s.pendTrigger t = { s with position := { s.position with pendingTrigger := some t } } := by
  unfold State.pendTrigger
  split
  · rfl
  · simp_all

/-- A trigger already waiting is lost with a TRIGGER OVERRUN (R98). -/
theorem State.pendTrigger_of_some (h : s.position.pendingTrigger ≠ none) (t : Trigger) :
    s.pendTrigger t = ({ s with
        position := { s.position with pendingTrigger := some t }
        link := { s.link with counters := { s.link.counters with
          triggerOverruns := min 4294967295 (s.link.counters.triggerOverruns + 1) } } } :
      State).latch [.triggerOverrun] := by
  unfold State.pendTrigger
  split
  · simp_all
  · rfl

/-! ## Reports and the next exposure (R99, R103) -/

/-- A report that does not name the current exposure is ignored. -/
theorem State.reportEnd_of_other {q : BitVec 16}
    (h : ∀ e, s.position.current = some e → e.sequence ≠ q) : s.reportEnd q = s := by
  have hother : s.position.isCurrent q = false := by
    unfold PositionUnit.isCurrent
    split
    · rfl
    · exact decide_eq_false (h _ ‹_›)
  simp [State.reportEnd, hother]

theorem State.reportEnd_of_current {e : CurrentExposure} (h : s.position.current = some e) :
    s.reportEnd e.sequence =
      if s.position.sequencer = .awaitingFrame then
        (s.setPosition { s.position with
          current := some { e with recordState := .closed } }).becomeReady
      else s.setPosition { s.position with current := some { e with recordState := .closed } } := by
  have hcurrent : s.position.isCurrent e.sequence = true := by simp [PositionUnit.isCurrent, h]
  have hclosed : s.position.closeCurrent
      = { s.position with current := some { e with recordState := .closed } } := by
    simp [PositionUnit.closeCurrent, h]
  simp only [State.reportEnd, hcurrent, hclosed, if_true]

theorem State.takeUpNext_of_armed (h : s.intake.survey = .armed) :
    s.takeUpNext = s.startExposure .survey s.position.p :=
  if_pos h

theorem State.takeUpNext_of_pending (h : s.intake.survey ≠ .armed) {t : Trigger}
    (ht : s.position.pendingTrigger = some t) :
    s.takeUpNext
      = (s.setPosition { s.position with pendingTrigger := none }).startExposure t.cause t.tag := by
  simp [State.takeUpNext, h, ht]

theorem State.takeUpNext_of_nothing (h : s.intake.survey ≠ .armed)
    (ht : s.position.pendingTrigger = none) : s.takeUpNext = s := by
  simp [State.takeUpNext, h, ht]

end

/-- Settles O38: a trigger, a report and the next exposure, each by what the sequencer holds. -/
theorem sequencerTakesExposuresInTurn : Obligations.SequencerTakesExposuresInTurn := by
  refine ⟨fun s cause tag => ⟨fun hready hsurvey => ?_, fun hwaits => ⟨fun hnone => ?_, fun hsome => ?_⟩⟩,
    fun s q => ⟨State.reportEnd_of_other, fun e he hq => ?_⟩,
    fun s => ⟨fun harmed => ?_, fun t hsurvey ht => ?_, fun hsurvey hnone => ?_⟩⟩
  · rw [State.raiseTrigger_of_ready hready hsurvey]
    exact ⟨s.startExposure_started cause tag, s.startExposure_frame cause tag⟩
  · rw [State.raiseTrigger_of_waits hwaits, State.pendTrigger_of_none hnone]
  · rw [State.raiseTrigger_of_waits hwaits, State.pendTrigger_of_some hsome]
  · subst hq
    exact State.reportEnd_of_current he
  · set u := s.setPosition { s.position with sequencer := .ready }
    have hnext : s.becomeReady = u.startExposure .survey s.position.p :=
      State.takeUpNext_of_armed harmed
    rw [hnext]
    exact ⟨u.startExposure_frame _ _, u.startExposure_started _ _⟩
  · set u := s.setPosition { s.position with sequencer := .ready, pendingTrigger := none }
    have hnext : s.becomeReady = u.startExposure t.cause t.tag :=
      State.takeUpNext_of_pending (s := s.setPosition { s.position with sequencer := .ready })
        hsurvey ht
    rw [hnext]
    exact ⟨u.startExposure_frame _ _, u.startExposure_started _ _⟩
  · exact State.takeUpNext_of_nothing hsurvey hnone

/-! ## SNAP (R100) -/

/-- SNAP with a place free: the trigger raised while the place is held, then the REPLY. -/
theorem exec_snap {s : State} (h : s.PlaceFree) (tag : Byte) :
    exec (.snap tag) s = .next ((s.holdReplyPlace.raiseTrigger .snap s.position.p).placeReply tag 15
      { code := .done, content := [if s.startsAtOnce then 0 else 1] }) :=
  congrArg Host.Outcome.next (consume_of_placeFree h)

/-- Settles O25: SNAP raises its trigger and then answers. -/
theorem snapStartsOrPends : Obligations.SnapStartsOrPends := by
  intro s tag hplace
  refine ⟨fun hready hsurvey => ?_, fun hwaits => ⟨fun hnone => ?_, fun hsome => ?_⟩⟩
  all_goals rw [exec_snap hplace]
  · have hstarts := s.startsAtOnce_iff.mpr ⟨hready, hsurvey⟩
    have hstarted := s.holdReplyPlace.startExposure_started .snap s.position.p
    rw [State.raiseTrigger_of_ready (s := s.holdReplyPlace) hready hsurvey, hstarts]
    refine ⟨_, rfl, hstarted.of_holdReplyPlace.placeReply _ _ _, ?_, State.placeReply_replied ..⟩
    rw [s.holdReplyPlace.startExposure_frame]
    rfl
  all_goals
    have hlater := s.startsAtOnce_eq_false_iff.mpr hwaits
    rw [State.raiseTrigger_of_waits (s := s.holdReplyPlace) hwaits, hlater]
  · rw [State.pendTrigger_of_none (s := s.holdReplyPlace) hnone]
    rfl
  · rw [State.pendTrigger_of_some (s := s.holdReplyPlace) hsome]
    refine ⟨_, rfl, ?_, ?_, (State.latch_reported _ (List.mem_singleton_self _)).placeReply _ _ _,
      State.placeReply_replied ..⟩
    · rw [State.latch_eq_setLink]
      rfl
    · exact (State.latch_kept _ _).trans ⟨rfl, rfl, rfl, rfl, rfl, rfl, rfl, rfl, rfl⟩

/-! ## SET of a numeric parameter (R170) -/

/-- With a step of 1 a value is only brought into its range. -/
theorem takeValue_one (lo hi value : Nat) : takeValue lo hi 1 value = max lo (min hi value) := by
  simp [takeValue, clampNat]

/-- A numeric SET with a place free: the value taken is stored while the place is held, then answered. -/
theorem consume_setNumber {s : State} {lo hi n : Nat} {v : Word} (h : s.PlaceFree)
    (hn : max lo (min hi v.toNat) = n) (tag identifier : Byte) (store : State → Nat → State) :
    consume tag 2 (fun u => setNumber identifier v lo hi 1 (store u)) s =
      (store s.holdReplyPlace n).placeReply tag 2
        { code := if n = v.toNat then .done else .clamped
          content := [identifier, 0] ++ bigEndian 4 n } := by
  rw [consume_of_placeFree h, setNumber, takeValue_one, hn]
  rfl

/-- Settles O11: L becomes the greatest multiple of the new STEP up to P. -/
theorem setTriggerStepRebases : Obligations.SetTriggerStepRebases := by
  intro s tag v hplace n l
  have hstep : (0 : Int) < (n : Int) := by omega
  refine ⟨congrArg _ (consume_setNumber hplace rfl tag 7 _), ?_, ?_⟩
  · exact Int.ediv_mul_le _ hstep.ne'
  · exact Int.lt_ediv_add_one_mul_self _ hstep |>.trans_eq (by ring)

/-! ## The length of an exposure (R105, R106) -/

/-- The set exposure is cut only by a blur limit at a speed above 0. -/
theorem effectiveExposure_eq (set blur v : Nat) :
    effectiveExposure set blur v =
      if blur = 0 ∨ v = 0 then set else min set (max 50 (blur * 1000000 / v)) := by
  unfold effectiveExposure
  split
  · rw [if_neg (by omega)]
  · rw [if_pos (by omega)]

/-- An exposure is never cut below 50 microseconds, nor longer than set. -/
theorem effectiveExposure_bounds {set : Nat} (h : 50 ≤ set) (blur v : Nat) :
    50 ≤ effectiveExposure set blur v ∧ effectiveExposure set blur v ≤ set := by
  unfold effectiveExposure
  split
  · exact ⟨le_min h (le_max_left ..), min_le_left ..⟩
  · exact ⟨h, le_refl _⟩

/-- An exposure no longer than set is compensated by at least 1, which is 256. -/
theorem le_compensation {set effective : Nat} (hpos : 0 < effective) (hle : effective ≤ set) :
    256 ≤ compensation set effective := by
  refine le_min (by decide) ((Nat.le_div_iff_mul_le hpos).mpr ?_)
  rw [Nat.mul_comm]
  exact Nat.mul_le_mul_right _ hle

/-- Settles O45: the cut keeps the exposure in 50..E_set, which keeps the compensation at least 256. -/
theorem exposureIsCutAndCompensated : Obligations.ExposureIsCutAndCompensated := by
  intro s hmin hmax
  obtain ⟨hlow, hhigh⟩ := effectiveExposure_bounds hmin s.params.blurLimit s.position.speed
  have hpos : 0 < s.eEff := Nat.lt_of_lt_of_le (by decide) hlow
  exact ⟨effectiveExposure_eq .., hlow, hhigh, rfl, le_compensation hpos hhigh⟩

end Sys2Proof.Machine

/-! PROOFS. Motion modes and the odometer: what a timer, an interval or a count does when it is due, and
what a motion parameter set while it is already met does at once. -/

namespace Sys2Proof.Machine

/-! ## What triggers leave as they were (R91 to R95) -/

section
variable (s : State) (cause : Cause) (tag : Int)

@[simp] theorem State.raiseTrigger_p : (s.raiseTrigger cause tag).position.p = s.position.p := by
  unfold State.raiseTrigger
  split <;> simp [State.startExposure_position, State.pendTrigger_position, State.exposingUnit]

@[simp] theorem State.raiseTrigger_restPosition :
    (s.raiseTrigger cause tag).position.restPosition = s.position.restPosition := by
  unfold State.raiseTrigger
  split <;> simp [State.startExposure_position, State.pendTrigger_position, State.exposingUnit]

@[simp] theorem State.raiseTrigger_lastCount :
    (s.raiseTrigger cause tag).position.lastCount = s.position.lastCount := by
  unfold State.raiseTrigger
  split <;> simp [State.startExposure_position, State.pendTrigger_position, State.exposingUnit]

@[simp] theorem State.raiseTrigger_speed :
    (s.raiseTrigger cause tag).position.speed = s.position.speed := by
  unfold State.raiseTrigger
  split <;> simp [State.startExposure_position, State.pendTrigger_position, State.exposingUnit]

@[simp] theorem State.raiseTrigger_mode :
    (s.raiseTrigger cause tag).position.mode = s.position.mode := by
  unfold State.raiseTrigger
  split <;> simp [State.startExposure_position, State.pendTrigger_position, State.exposingUnit]

/-- A TIME reference taken at a trigger stays: an exposure that starts takes the same (R95, R101). -/
theorem State.raiseTrigger_timeReference (h : s.position.timeReference = some s.now) :
    (s.raiseTrigger cause tag).position.timeReference = some s.now := by
  unfold State.raiseTrigger
  split <;> simp [State.startExposure_position, State.pendTrigger_position, State.exposingUnit, h]

end

/-- A trigger raised stands: it waits, or its exposure's record is outstanding (R97, R98). -/
def State.Raised (s : State) (cause : Cause) (tag : Int) : Prop :=
  s.position.pendingTrigger = some { cause, tag }
    ∨ ∃ r, s.position.outstanding = some r ∧ r.cause = cause ∧ r.tag = tag

theorem State.raiseTrigger_raised (s : State) (cause : Cause) (tag : Int) :
    (s.raiseTrigger cause tag).Raised cause tag := by
  unfold State.raiseTrigger State.Raised
  split
  · exact .inr ⟨s.newRecord cause tag, by rw [State.startExposure_position]; rfl, rfl, rfl⟩
  · exact .inl (by rw [State.pendTrigger_position])

theorem State.Raised.latch {s : State} {cause : Cause} {tag : Int} (h : s.Raised cause tag)
    (ks : List EventKind) : (s.latch ks).Raised cause tag := by
  simpa [State.Raised] using h

/-- What motion modes and triggers leave as it was. -/
structure State.Carries (s t : State) : Prop where
  params : t.params = s.params
  now : t.now = s.now
  intake : t.intake = s.intake
  slots : t.slots = s.slots
  engine : t.engine = s.engine
  views : t.views = s.views
  p : t.position.p = s.position.p
  lastCount : t.position.lastCount = s.position.lastCount
  speed : t.position.speed = s.position.speed

namespace State.Carries
variable {s t u : State}

theorem refl (s : State) : s.Carries s :=
  ⟨rfl, rfl, rfl, rfl, rfl, rfl, rfl, rfl, rfl⟩

theorem trans (h : s.Carries t) (k : t.Carries u) : s.Carries u where
  params := k.params.trans h.params
  now := k.now.trans h.now
  intake := k.intake.trans h.intake
  slots := k.slots.trans h.slots
  engine := k.engine.trans h.engine
  views := k.views.trans h.views
  p := k.p.trans h.p
  lastCount := k.lastCount.trans h.lastCount
  speed := k.speed.trans h.speed

theorem latch (h : s.Carries t) (ks : List EventKind) : s.Carries (t.latch ks) :=
  h.trans ⟨by simp, by simp, by simp, by simp, by simp, by simp, by simp, by simp, by simp⟩

theorem raiseTrigger (h : s.Carries t) (cause : Cause) (tag : Int) :
    s.Carries (t.raiseTrigger cause tag) :=
  h.trans ⟨by simp, by simp, by simp, by simp, by simp, by simp, by simp, by simp, by simp⟩

theorem raiseTime (h : s.Carries t) : s.Carries t.raiseTime :=
  h.trans (raiseTrigger (s := t) (t := t.setPosition { t.position with timeReference := some t.now })
    ⟨rfl, rfl, rfl, rfl, rfl, rfl, rfl, rfl, rfl⟩ _ _)

end State.Carries

/-! ## Events stay reported (R172, R173) -/

namespace State.Reported
variable {s : State} {k : EventKind} (h : s.Reported k)
include h

/-- Only the latches and the management queue matter. -/
theorem of_link {t : State} (hlatches : t.link.latches = s.link.latches)
    (hmanagement : t.link.management = s.link.management) : t.Reported k := by
  rwa [State.Reported, State.latched, hlatches, hmanagement]

/-- A waiting STATUS cell keeps the latches it carries as it is rebuilt. -/
theorem statusOccasion : (s.setLink (Machine.statusOccasion s)).Reported k := by
  rcases h with hlatched | ⟨c, hc, hstatus, hcarried⟩
  · exact statusOccasion_reported hlatched
  · have hany : s.link.management.any isStatus = true :=
      List.any_eq_true.mpr ⟨c, hc, decide_eq_true hstatus⟩
    have hrebuilt : (carriedLatches (rebuildStatus s c)).getLsbD k.index = true := by
      rw [carriedLatches_rebuildStatus, BitVec.getLsbD_or, hcarried, Bool.true_or]
    rw [Machine.statusOccasion, if_pos hany]
    exact .inr ⟨rebuildStatus s c, List.mem_map.mpr ⟨c, hc, by simp [isStatus, hstatus]⟩, hstatus,
      hrebuilt⟩

theorem latch (ks : List EventKind) : (s.latch ks).Reported k := by
  have hset : (s.setLatches ks).Reported k := by
    rcases h with hlatched | hcarried
    · refine .inl ?_
      rw [State.latched] at hlatched ⊢
      simp [State.setLatches, hlatched]
    · exact .inr hcarried
  unfold State.latch
  split
  · exact hset.statusOccasion
  · exact hset

theorem raiseTrigger (cause : Cause) (tag : Int) : (s.raiseTrigger cause tag).Reported k := by
  unfold State.raiseTrigger
  split
  · unfold State.startExposure
    refine latch ?_ _
    exact h.of_link rfl rfl
  · unfold State.pendTrigger
    split
    · exact h.of_link rfl rfl
    · refine latch ?_ _
      exact h.of_link rfl rfl

theorem raiseTime : s.raiseTime.Reported k := by
  unfold State.raiseTime
  refine raiseTrigger ?_ _ _
  exact h.of_link rfl rfl

end State.Reported

/-! ## Time triggers (R95) -/

theorem milliseconds_eq (n : Nat) : Config.milliseconds n = 48000 * n := by
  unfold Config.milliseconds Config.microseconds Config.stepsPerMicrosecond
  omega

theorem seconds_eq (n : Nat) : Config.seconds n = 48000000 * n := by
  rw [Config.seconds, milliseconds_eq]
  omega

/-- The moment a TIME trigger falls due after an interval. -/
def State.dueAfter (s : State) (interval : Nat) : Nat :=
  s.position.timeReference.getD s.position.modeEntered + interval

/-- The interval is PARK INTERVAL in PARKED and DWELL INTERVAL else. -/
theorem State.timeDue_eq (s : State) : s.timeDue = s.dueAfter
    (if s.position.mode = .parked then 48000000 * s.params.parkInterval
      else 48000 * s.params.dwellInterval) := by
  unfold State.timeDue State.timeInterval State.dueAfter
  cases s.position.mode <;> simp [milliseconds_eq, seconds_eq]

theorem State.raiseTime_raised (s : State) : s.raiseTime.Raised .time s.position.p :=
  State.raiseTrigger_raised _ _ _

theorem State.raiseTime_timeReference (s : State) :
    s.raiseTime.position.timeReference = some s.now :=
  State.raiseTrigger_timeReference _ _ _ rfl

theorem State.raiseTime_restPosition (s : State) :
    s.raiseTime.position.restPosition = s.position.restPosition :=
  State.raiseTrigger_restPosition _ _ _

theorem State.raiseTime_mode (s : State) : s.raiseTime.position.mode = s.position.mode :=
  State.raiseTrigger_mode _ _ _

/-! ## PARKED entered (R93) -/

/-- PARKED entered, before the TIME trigger that may be due. -/
def State.inPark (s : State) : State :=
  (s.setPosition { s.position with mode := .parked, modeEntered := s.now }).latch [.motion]

/-- PARKED entered, with the TIME trigger due at the entry. -/
def State.parking (s : State) (interval : Nat) : State :=
  if s.inPark.dueAfter interval ≤ s.inPark.now then s.inPark.raiseTime else s.inPark

section
variable (s : State) (interval : Nat)

/-- Only the mode and its entry move in the unit as PARKED is entered. -/
theorem State.inPark_position :
    s.inPark.position = { s.position with mode := .parked, modeEntered := s.now } := by
  simp [State.inPark]

theorem State.enterPark_eq : s.enterPark = s.parking (48000000 * s.params.parkInterval) := by
  have hmode : s.inPark.position.mode = .parked := by rw [State.inPark_position]
  have hparams : s.inPark.params = s.params := by simp [State.inPark]
  have hentered : s.enterPark = s.inPark.raiseIfDue := rfl
  simp [hentered, State.raiseIfDue, State.timeDue_eq, State.parking, hmode, hparams]

theorem State.inPark_carries : s.Carries s.inPark := by
  unfold State.inPark
  refine .latch ?_ _
  exact ⟨rfl, rfl, rfl, rfl, rfl, rfl, rfl, rfl, rfl⟩

theorem State.inPark_reported : s.inPark.Reported .motion :=
  State.latch_reported _ (List.mem_singleton_self _)

theorem State.parking_carries : s.Carries (s.parking interval) := by
  unfold State.parking
  split
  · exact s.inPark_carries.raiseTime
  · exact s.inPark_carries

theorem State.parking_reported : (s.parking interval).Reported .motion := by
  unfold State.parking
  split
  · exact s.inPark_reported.raiseTime
  · exact s.inPark_reported

theorem State.parking_mode : (s.parking interval).position.mode = .parked := by
  unfold State.parking
  split
  · rw [State.raiseTime_mode, State.inPark_position]
  · rw [State.inPark_position]

theorem State.parking_restPosition :
    (s.parking interval).position.restPosition = s.position.restPosition := by
  unfold State.parking
  split
  · rw [State.raiseTime_restPosition, State.inPark_position]
  · rw [State.inPark_position]

variable {s}

/-- A TIME trigger already raised stands as PARKED is entered: another raised then has the same tag. -/
theorem State.Raised.parking (h : s.Raised .time s.position.p) :
    (s.parking interval).Raised .time s.position.p := by
  unfold State.parking
  split
  · have hraised := s.inPark.raiseTime_raised
    rwa [s.inPark_carries.p] at hraised
  · unfold State.inPark
    refine State.Raised.latch ?_ _
    exact h

theorem State.parking_timeReference (h : s.position.timeReference = some s.now) :
    (s.parking interval).position.timeReference = some s.now := by
  unfold State.parking
  split
  · rw [State.raiseTime_timeReference, s.inPark_carries.now]
  · rw [State.inPark_position, h]

end

/-! ## DWELL entered (R92) -/

/-- DWELL entered with P as the rest position, before the TIME trigger that may be due. -/
def State.inDwell (s : State) : State :=
  (s.setPosition { s.position with
    mode := .dwell, modeEntered := s.now, restPosition := some s.position.p }).latch [.motion]

/-- DWELL entered, with the TIME trigger due at the entry. -/
def State.dwelling (s : State) : State :=
  if s.inDwell.dueAfter (48000 * s.params.dwellInterval) ≤ s.inDwell.now then s.inDwell.raiseTime
  else s.inDwell

section
variable (s : State)

/-- Only the mode, its entry and the rest position move in the unit as DWELL is entered. -/
theorem State.inDwell_position : s.inDwell.position =
    { s.position with
      mode := .dwell, modeEntered := s.now, restPosition := some s.position.p } := by
  simp [State.inDwell]

theorem State.inDwell_carries : s.Carries s.inDwell := by
  unfold State.inDwell
  refine .latch ?_ _
  exact ⟨rfl, rfl, rfl, rfl, rfl, rfl, rfl, rfl, rfl⟩

theorem State.inDwell_reported : s.inDwell.Reported .motion :=
  State.latch_reported _ (List.mem_singleton_self _)

/-- At the entry a TIME trigger is due when its reference, or else the entry itself, is an interval
past. -/
theorem State.dwelling_eq : s.dwelling =
    if s.position.timeReference.getD s.now + 48000 * s.params.dwellInterval ≤ s.now then
      s.inDwell.raiseTime
    else s.inDwell := by
  simp only [State.dwelling, State.dueAfter, State.inDwell_position, s.inDwell_carries.now]

theorem State.dwelling_carries : s.Carries s.dwelling := by
  unfold State.dwelling
  split
  · exact s.inDwell_carries.raiseTime
  · exact s.inDwell_carries

theorem State.dwelling_reported : s.dwelling.Reported .motion := by
  unfold State.dwelling
  split
  · exact s.inDwell_reported.raiseTime
  · exact s.inDwell_reported

theorem State.dwelling_mode : s.dwelling.position.mode = .dwell := by
  unfold State.dwelling
  split
  · rw [State.raiseTime_mode, State.inDwell_position]
  · rw [State.inDwell_position]

theorem State.dwelling_restPosition : s.dwelling.position.restPosition = some s.position.p := by
  unfold State.dwelling
  split
  · rw [State.raiseTime_restPosition, State.inDwell_position]
  · rw [State.inDwell_position]

theorem State.parkDue_eq :
    s.parkDue = s.position.lastCount + 48000000 * s.params.parkTimeout := by
  rw [State.parkDue, seconds_eq]

theorem State.dwellDue_eq :
    s.dwellDue = s.position.lastCount + 4800000 * s.params.dwellTimeout := by
  rw [State.dwellDue, milliseconds_eq, ← Nat.mul_assoc]

theorem State.parkRuns_iff :
    s.parkRuns = true ↔ s.position.mode = .dwell ∧ s.params.parkTimeout ≠ 0 := by
  simp [State.parkRuns]

theorem State.dwellRuns_iff :
    s.dwellRuns = true ↔ s.position.mode = .travel ∧ s.params.dwellTimeout ≠ 0 := by
  simp [State.dwellRuns]

/-- DWELL is entered with the TIME trigger due at the entry, and passes on to PARKED when that timer
has expired too (R92, R93). -/
theorem State.enterDwell_eq : s.enterDwell =
    if s.params.parkTimeout ≠ 0
        ∧ s.position.lastCount + 48000000 * s.params.parkTimeout ≤ s.dwelling.now then
      s.dwelling.parking (48000000 * s.params.parkInterval)
    else s.dwelling := by
  have hdwelling : s.inDwell.raiseIfDue = s.dwelling := by
    have hmode : s.inDwell.position.mode = .dwell := by rw [State.inDwell_position]
    simp [State.raiseIfDue, State.timeDue_eq, State.dwelling, hmode, s.inDwell_carries.params]
  have hentered : s.enterDwell = s.inDwell.raiseIfDue.parkIfPassed := rfl
  rw [hentered, hdwelling]
  simp only [State.parkIfPassed, State.parkRuns_iff, State.dwelling_mode, State.parkDue_eq,
    s.dwelling_carries.params, s.dwelling_carries.lastCount, State.enterPark_eq, true_and]

end

/-- Settles O49: the timers' due moments, and what an entry brings with it. -/
theorem motionTimersRun : Obligations.MotionTimersRun := by
  intro s at' due dwellMs parkMs timed parked parkDue
  refine ⟨fun hmode hset => ?_, fun hmode hset => ?_, fun hmode => ?_, fun hmode => ?_⟩
  · have hexec : exec .dwellTimer s = .next (s.advanceTo s.dwellDue).enterDwell :=
      congrArg _ (if_pos (s.dwellRuns_iff.mpr ⟨hmode, hset⟩))
    rw [hexec, State.enterDwell_eq, State.dwellDue_eq]
    rfl
  · have hexec : exec .parkTimer s = .next (s.advanceTo s.parkDue).enterPark :=
      congrArg _ (if_pos (s.parkRuns_iff.mpr ⟨hmode, hset⟩))
    rw [hexec, State.enterPark_eq, State.parkDue_eq]
    rfl
  all_goals
    have hexec : exec .timeTrigger s = .next (s.advanceTo s.timeDue).raiseTime :=
      congrArg _ (if_neg (by simp [hmode]))
    rw [hexec, State.timeDue_eq, hmode]
    rfl

end Sys2Proof.Machine

/-! PROOFS. The odometer and the wake: a count, a glitch, the speed window, and the creep tested as the
crawler wakes. -/

namespace Sys2Proof.Machine

/-! ## The distance test and the wake (R89, R91, R94) -/

/-- The crawler woken with a last trigger point, before its DISTANCE trigger and MOTION. -/
def State.wokenAt (s : State) (l : Int) : State :=
  s.setPosition { s.position with
    mode := .travel, modeEntered := s.now, restPosition := none, l }

section
variable {s : State}

theorem State.distanceTest_of_above (h : s.position.p = s.position.l + s.step) :
    s.distanceTest = s.raiseDistance (s.position.l + s.step) :=
  if_pos h

theorem State.distanceTest_of_below (hstep : 0 < s.step)
    (h : s.position.p = s.position.l - s.step) :
    s.distanceTest = s.raiseDistance (s.position.l - s.step) :=
  (if_neg (by omega)).trans (if_pos h)

theorem State.distanceTest_of_within (habove : s.position.p ≠ s.position.l + s.step)
    (hbelow : s.position.p ≠ s.position.l - s.step) : s.distanceTest = s :=
  (if_neg habove).trans (if_neg hbelow)

/-- A creep up to or past L + STEP raises one DISTANCE trigger, at the multiple of STEP at or below P. -/
theorem State.wake_of_above (h : s.position.l + s.step ≤ s.position.p) :
    s.wake = ((s.wokenAt (s.position.p / s.step * s.step)).raiseTrigger .distance
      (s.position.p / s.step * s.step)).latch [.motion] :=
  congrArg (State.latch · [.motion]) (if_pos h)

/-- A creep down to or past L - STEP raises one, at the multiple of STEP at or above P. -/
theorem State.wake_of_below (hstep : 0 < s.step) (h : s.position.p ≤ s.position.l - s.step) :
    s.wake = ((s.wokenAt (-(-s.position.p / s.step) * s.step)).raiseTrigger .distance
      (-(-s.position.p / s.step) * s.step)).latch [.motion] := by
  have hnot : ¬s.position.l + s.step ≤ s.position.p := by omega
  exact congrArg (State.latch · [.motion]) ((if_neg hnot).trans (if_pos h))

theorem State.wake_of_within (hbelow : s.position.l - s.step < s.position.p)
    (habove : s.position.p < s.position.l + s.step) :
    s.wake = (s.wokenAt s.position.l).latch [.motion] :=
  congrArg (State.latch · [.motion]) ((if_neg (not_le.mpr habove)).trans (if_neg (not_le.mpr hbelow)))

theorem State.wakes_iff (s : State) :
    s.wakes = true ↔ s.position.mode ≠ .travel
      ∧ ∃ r, s.position.restPosition = some r ∧ s.params.wakeDistance ≤ (s.position.p - r).natAbs := by
  unfold State.wakes
  cases s.position.restPosition <;> simp

theorem State.wakeTest_of_wakes (hmode : s.position.mode ≠ .travel) {r : Int}
    (hrest : s.position.restPosition = some r)
    (hfar : s.params.wakeDistance ≤ (s.position.p - r).natAbs) : s.wakeTest = s.wake :=
  if_pos (s.wakes_iff.mpr ⟨hmode, r, hrest, hfar⟩)

theorem State.wakeTest_of_near (h : ∀ r, s.position.restPosition = some r →
    (s.position.p - r).natAbs < s.params.wakeDistance) : s.wakeTest = s := by
  refine if_neg fun hwakes => ?_
  obtain ⟨-, r, hrest, hfar⟩ := s.wakes_iff.mp hwakes
  exact absurd (h r hrest) (not_lt.mpr hfar)

end

/-! ## Counts (R85) -/

/-- A change of phase A is a forward step when the phases agree (TABLE 5-2). -/
theorem isForward_phaseA (a b : Bool) : isForward a b .phaseA = decide (a = b) := by
  cases a <;> cases b <;> rfl

/-- A change of phase B is a forward step when the phases differ (TABLE 5-2). -/
theorem isForward_phaseB (a b : Bool) : isForward a b .phaseB = decide (a ≠ b) := by
  cases a <;> cases b <;> rfl

/-- Within the limits, a count reaches them at most. -/
theorem movedPosition_eq {p : Int} (hlow : -2147483647 ≤ p) (hhigh : p ≤ 2147483647)
    (forward : Bool) : movedPosition p forward =
      if forward then min 2147483647 (p + 1) else max (-2147483647) (p - 1) := by
  unfold movedPosition clampInt Config.positionLimit
  cases forward <;> simp only [Bool.false_eq_true, if_true, if_false] <;> omega

/-- A count outside TRAVEL is followed by the wake test, one in TRAVEL by the distance test. -/
theorem exec_odometerCount (phase : OdoPhase) (s : State) :
    exec (.odometerCount phase) s = .next
      (if s.position.mode = .travel then
        (s.setPosition (s.position.counted phase s.now)).distanceTest
      else (s.setPosition (s.position.counted phase s.now)).wakeTest) := rfl

/-- Settles O48: a count is the unit's own, and the test that follows it goes by what it made. -/
theorem odometerMovesThePosition : Obligations.OdometerMovesThePosition := by
  refine ⟨?count, fun s => rfl, fun s => rfl⟩
  intro s phase hset a b forward p step l moved at' hlow hhigh
  have hstep : 0 < step := by omega
  have hforward : isForward a b phase = forward := by
    cases phase
    · exact isForward_phaseA a b
    · exact isForward_phaseB a b
  have hcounted : s.position.counted phase s.now = moved := by
    rw [PositionUnit.counted, movedPosition_eq hlow hhigh, hforward]
  have hexec := exec_odometerCount phase s
  rw [hcounted] at hexec
  refine ⟨fun hmode => ?_, fun hmode => ?_⟩
  · rw [if_pos hmode] at hexec
    refine ⟨fun habove => ?_, fun hbelow => ?_, fun habove hbelow => ?_⟩
    · rw [hexec, State.distanceTest_of_above (s := s.setPosition moved) habove]
      rfl
    · rw [hexec, State.distanceTest_of_below (s := s.setPosition moved) hstep hbelow]
      rfl
    · rw [hexec, State.distanceTest_of_within (s := s.setPosition moved) habove hbelow]
      rfl
  · rw [if_neg hmode] at hexec
    refine ⟨fun hnear => ?_, fun r hrest hfar => ?_⟩
    · rw [hexec, State.wakeTest_of_near (s := s.setPosition moved) hnear]
      rfl
    · rw [State.wakeTest_of_wakes (s := s.setPosition moved) hmode hrest hfar] at hexec
      refine ⟨fun habove => ?_, fun hbelow => ?_, fun hbelow habove => ?_⟩
      · rw [hexec, State.wake_of_above (s := s.setPosition moved) habove]
        rfl
      · rw [hexec, State.wake_of_below (s := s.setPosition moved) hstep hbelow]
        rfl
      · rw [hexec, State.wake_of_within (s := s.setPosition moved) hbelow habove]
        rfl

end Sys2Proof.Machine

/-! PROOFS. The motion parameters set while already met: what each does at once, with its REPLY last. -/

namespace Sys2Proof.Machine

/-! ## Wakes -/

/-- The crawler woken carries what a motion mode carries. -/
theorem State.wokenAt_carries (s : State) (l : Int) : s.Carries (s.wokenAt l) :=
  ⟨rfl, rfl, rfl, rfl, rfl, rfl, rfl, rfl, rfl⟩

/-- A wake is one of the three: with a DISTANCE trigger from above, from below, or with none (R91). -/
theorem State.wake_cases (s : State) :
    (∃ x, s.wake = ((s.wokenAt x).raiseTrigger .distance x).latch [.motion])
      ∨ s.wake = (s.wokenAt s.position.l).latch [.motion] := by
  by_cases habove : s.position.l + s.step ≤ s.position.p
  · exact .inl ⟨_, State.wake_of_above habove⟩
  · by_cases hbelow : s.position.p ≤ s.position.l - s.step
    · refine .inl ⟨-(-s.position.p / s.step) * s.step, ?_⟩
      exact congrArg (State.latch · [.motion]) ((if_neg habove).trans (if_pos hbelow))
    · exact .inr (State.wake_of_within (not_le.mp hbelow) (not_le.mp habove))

section
variable (s : State)

theorem State.wake_carries : s.Carries s.wake := by
  rcases s.wake_cases with ⟨x, hwake⟩ | hwake <;> rw [hwake]
  · exact ((s.wokenAt_carries x).raiseTrigger _ _).latch _
  · exact (s.wokenAt_carries _).latch _

theorem State.wake_restPosition : s.wake.position.restPosition = none := by
  rcases s.wake_cases with ⟨x, hwake⟩ | hwake <;> rw [hwake, State.latch_position]
  · exact State.raiseTrigger_restPosition _ _ _
  · rfl

theorem State.wake_mode : s.wake.position.mode = .travel := by
  rcases s.wake_cases with ⟨x, hwake⟩ | hwake <;> rw [hwake, State.latch_position]
  · exact State.raiseTrigger_mode _ _ _
  · rfl

theorem State.wake_reported : s.wake.Reported .motion :=
  State.latch_reported _ (List.mem_singleton_self _)

end

/-! ## DWELL entered, with all that the entry brings -/

section
variable (s : State)

theorem State.enterDwell_carries : s.Carries s.enterDwell := by
  rw [State.enterDwell_eq]
  split
  · exact s.dwelling_carries.trans (State.parking_carries _ _)
  · exact s.dwelling_carries

theorem State.enterDwell_restPosition : s.enterDwell.position.restPosition = some s.position.p := by
  rw [State.enterDwell_eq]
  split
  · rw [State.parking_restPosition, State.dwelling_restPosition]
  · exact s.dwelling_restPosition

theorem State.enterDwell_reported : s.enterDwell.Reported .motion := by
  rw [State.enterDwell_eq]
  split
  · exact State.parking_reported _ _
  · exact s.dwelling_reported

theorem State.enterDwell_mode : s.enterDwell.position.mode =
    if s.params.parkTimeout ≠ 0
        ∧ s.position.lastCount + 48000000 * s.params.parkTimeout ≤ s.now then .parked
    else .dwell := by
  rw [State.enterDwell_eq, s.dwelling_carries.now]
  split
  · exact State.parking_mode _ _
  · exact s.dwelling_mode

variable {s}

/-- A TIME trigger due at the entry stands, and its moment is the time reference (R95). -/
theorem State.enterDwell_timed
    (h : s.position.timeReference.getD s.now + 48000 * s.params.dwellInterval ≤ s.now) :
    s.enterDwell.Raised .time s.position.p ∧ s.enterDwell.position.timeReference = some s.now := by
  have hdwelling : s.dwelling = s.inDwell.raiseTime := by rw [State.dwelling_eq, if_pos h]
  have hreference : s.dwelling.position.timeReference = some s.dwelling.now := by
    rw [s.dwelling_carries.now, hdwelling, State.raiseTime_timeReference, s.inDwell_carries.now]
  have hraised : s.dwelling.Raised .time s.dwelling.position.p := by
    have hp : s.dwelling.position.p = s.inDwell.position.p := by
      rw [s.dwelling_carries.p, s.inDwell_carries.p]
    rw [hp, hdwelling]
    exact State.raiseTime_raised _
  rw [State.enterDwell_eq]
  rw [s.dwelling_carries.p] at hraised
  split
  · have hparking := State.Raised.parking (48000000 * s.params.parkInterval)
      (s.dwelling_carries.p ▸ hraised)
    rw [s.dwelling_carries.p] at hparking
    exact ⟨hparking, (State.parking_timeReference _ hreference).trans
      (congrArg some s.dwelling_carries.now)⟩
  · exact ⟨hraised, hreference.trans (congrArg some s.dwelling_carries.now)⟩

end

/-! ## What each parameter finds met -/

section
variable {s : State}

theorem State.dwellIfPassed_of_passed (h : s.position.mode = .travel ∧ s.params.dwellTimeout ≠ 0
    ∧ s.position.lastCount + 4800000 * s.params.dwellTimeout ≤ s.now) :
    s.dwellIfPassed = s.enterDwell := by
  obtain ⟨hmode, hset, hpast⟩ := h
  exact if_pos ⟨s.dwellRuns_iff.mpr ⟨hmode, hset⟩, s.dwellDue_eq.trans_le hpast⟩

theorem State.dwellIfPassed_of_not (h : ¬(s.position.mode = .travel ∧ s.params.dwellTimeout ≠ 0
    ∧ s.position.lastCount + 4800000 * s.params.dwellTimeout ≤ s.now)) :
    s.dwellIfPassed = s := by
  refine if_neg fun ⟨hruns, hpast⟩ => h ?_
  obtain ⟨hmode, hset⟩ := s.dwellRuns_iff.mp hruns
  exact ⟨hmode, hset, s.dwellDue_eq.symm.trans_le hpast⟩

theorem State.parkIfPassed_of_passed (h : s.position.mode = .dwell ∧ s.params.parkTimeout ≠ 0
    ∧ s.position.lastCount + 48000000 * s.params.parkTimeout ≤ s.now) :
    s.parkIfPassed = s.parking (48000000 * s.params.parkInterval) := by
  obtain ⟨hmode, hset, hpast⟩ := h
  rw [← State.enterPark_eq]
  exact if_pos ⟨s.parkRuns_iff.mpr ⟨hmode, hset⟩, s.parkDue_eq.trans_le hpast⟩

theorem State.parkIfPassed_of_not (h : ¬(s.position.mode = .dwell ∧ s.params.parkTimeout ≠ 0
    ∧ s.position.lastCount + 48000000 * s.params.parkTimeout ≤ s.now)) :
    s.parkIfPassed = s := by
  refine if_neg fun ⟨hruns, hpast⟩ => h ?_
  obtain ⟨hmode, hset⟩ := s.parkRuns_iff.mp hruns
  exact ⟨hmode, hset, s.parkDue_eq.symm.trans_le hpast⟩

/-- An interval outside TRAVEL has passed since the time reference (R95). -/
def State.IntervalPassed (s : State) : Prop :=
  s.position.mode ≠ .travel
    ∧ s.dueAfter (if s.position.mode = .parked then 48000000 * s.params.parkInterval
      else 48000 * s.params.dwellInterval) ≤ s.now

theorem State.raiseIfDue_of_due (h : s.IntervalPassed) : s.raiseIfDue = s.raiseTime :=
  if_pos ⟨h.1, s.timeDue_eq.trans_le h.2⟩

theorem State.raiseIfDue_of_not (h : ¬s.IntervalPassed) : s.raiseIfDue = s :=
  if_neg fun hdue => h ⟨hdue.1, s.timeDue_eq.symm.trans_le hdue.2⟩

end

/-- Settles O12: each parameter is stored while the place is held, its test made, and then answered. -/
theorem setMotionParametersActAtOnce : Obligations.SetMotionParametersActAtOnce := by
  intro s tag v hplace answer held framed raised timed due parkEnds parked
  have hframed {p : Parameters} {u : State} (h : (held p).Carries u) (number : Byte) (n : Nat) :
      framed p number n (u.placeReply tag 2 (answer number n)) :=
    ⟨h.params, h.now, h.intake, h.slots, h.engine, h.views, h.p, h.lastCount, h.speed,
      State.placeReply_replied ..⟩
  have hinterval {i : Instr} {p : Parameters} {number : Byte} {n : Nat}
      (hexec : exec i s = .next ((held p).raiseIfDue.placeReply tag 2 (answer number n))) :
      ((held p).IntervalPassed → ∃ t, exec i s = .next t ∧ framed p number n t
          ∧ t = (timed (held p)).placeReply tag 2 (answer number n)
          ∧ t.position.timeReference = some s.now ∧ raised t .time s.position.p)
        ∧ (¬(held p).IntervalPassed → exec i s
          = .next (({ s with params := p } : State).placeReply tag 2 (answer number n))) := by
    constructor
    · intro hdue
      rw [State.raiseIfDue_of_due hdue] at hexec
      exact ⟨_, hexec, hframed (.raiseTime (.refl _)) number n, rfl,
        State.raiseTime_timeReference _, State.raiseTime_raised (held p)⟩
    · intro hstays
      rw [hexec, State.raiseIfDue_of_not hstays]
      rfl
  refine ⟨?dwellTimeout, ?dwellInterval, ?parkTimeout, ?parkInterval, ?wakeDistance⟩
  case dwellTimeout =>
    intro n p
    have hexec : exec (.setDwellTimeout tag v) s
        = .next ((held p).dwellIfPassed.placeReply tag 2 (answer 8 n)) :=
      congrArg _ (consume_setNumber hplace (Nat.zero_max _) tag 8 _)
    split
    · have hpassed : (held p).dwellIfPassed = (held p).enterDwell :=
        State.dwellIfPassed_of_passed ‹_›
      rw [hpassed] at hexec
      have hentered := (held p).enterDwell_eq
      rw [(held p).dwelling_carries.now, State.dwelling_eq] at hentered
      exact ⟨_, hexec, hframed (held p).enterDwell_carries 8 n,
        congrArg (State.placeReply · tag 2 (answer 8 n)) hentered,
        (held p).enterDwell_restPosition, (held p).enterDwell_reported.placeReply _ _ _,
        (held p).enterDwell_mode, fun hdue => State.enterDwell_timed (s := held p) hdue⟩
    · rw [hexec, State.dwellIfPassed_of_not ‹_›]
      rfl
  case dwellInterval =>
    intro n p interval
    have hdone := hinterval (i := .setDwellInterval tag v) (p := p) (n := n)
      (congrArg _ (consume_setNumber hplace rfl tag 9 _))
    split
    · exact hdone.1 ‹_›
    · exact hdone.2 ‹_›
  case parkTimeout =>
    intro n p
    have hexec : exec (.setParkTimeout tag v) s
        = .next ((held p).parkIfPassed.placeReply tag 2 (answer 10 n)) :=
      congrArg _ (consume_setNumber hplace (Nat.zero_max _) tag 10 _)
    split
    · rw [State.parkIfPassed_of_passed (s := held p) ‹_›] at hexec
      exact ⟨_, hexec, hframed (State.parking_carries _ _) 10 n, rfl,
        State.parking_restPosition _ _, State.parking_mode _ _,
        (State.parking_reported _ _).placeReply _ _ _⟩
    · rw [hexec, State.parkIfPassed_of_not (s := held p) ‹_›]
      rfl
  case parkInterval =>
    intro n p interval
    have hdone := hinterval (i := .setParkInterval tag v) (p := p) (n := n)
      (congrArg _ (consume_setNumber hplace rfl tag 11 _))
    split
    · exact hdone.1 ‹_›
    · exact hdone.2 ‹_›
  case wakeDistance =>
    intro n p
    have hexec : exec (.setWakeDistance tag v) s
        = .next ((held p).wakeTest.placeReply tag 2 (answer 12 n)) :=
      congrArg _ (consume_setNumber hplace rfl tag 12 _)
    split
    · have hwakes : (held p).wakeTest = (held p).wake := if_pos ((held p).wakes_iff.mpr ‹_›)
      rw [hwakes] at hexec
      refine ⟨_, hexec, hframed (held p).wake_carries 12 n, (held p).wake_restPosition,
        (held p).wake_mode, (held p).wake_reported.placeReply _ _ _, fun habove => ?_,
        fun hbelow hstep => ?_, fun hbelow habove => ?_⟩
      · rw [State.wake_of_above (s := held p) habove]
        exact ⟨rfl, State.Raised.latch (State.raiseTrigger_raised _ _ _) _⟩
      · rw [State.wake_of_below (s := held p) hstep hbelow]
        exact ⟨rfl, State.Raised.latch (State.raiseTrigger_raised _ _ _) _⟩
      · rw [State.wake_of_within (s := held p) hbelow habove]
        rfl
    · have hstays : (held p).wakeTest = held p :=
        if_neg fun hwakes => ‹¬_› ((held p).wakes_iff.mp hwakes)
      rw [hexec, hstays]
      rfl

end Sys2Proof.Machine

/-! PROOFS. The end of an exposure and its two limits: the window closed, the next exposure and a waiting
probe taken up, a lost exposure given up. -/

namespace Sys2Proof.Machine

/-! ## The end of an exposure (R102, R141, R143) -/

section
variable {s : State}

theorem State.hasNext_iff (s : State) :
    s.hasNext = true ↔ s.intake.survey = .armed ∨ s.position.pendingTrigger ≠ none := by
  simp [State.hasNext, Option.isSome_iff_ne_none]

theorem State.startWaitingProbe_of_not (h : s.guard.probe ≠ .waiting) : s.startWaitingProbe = s :=
  if_neg h

theorem State.startWaitingProbe_of_waiting (h : s.guard.probe = .waiting) :
    s.startWaitingProbe = s.startProbe :=
  if_pos h

/-- An exposure that awaits its frame leaves the next one alone. -/
theorem State.afterExposure_open : s.afterExposure false = s.startWaitingProbe :=
  rfl

/-- A CLOSED exposure with no probe waiting leaves the sequencer READY. -/
theorem State.afterExposure_closed (h : s.guard.probe ≠ .waiting) :
    s.afterExposure true = s.becomeReady := by
  simp [State.afterExposure, h, State.startWaitingProbe_of_not h]

/-- A waiting probe that meets no exposure starts, and the sequencer is READY. -/
theorem State.afterExposure_probe (h : s.guard.probe = .waiting) (hnext : s.hasNext = false) :
    s.afterExposure true = s.startProbe.becomeReady := by
  simp [State.afterExposure, hnext, State.startWaitingProbe_of_waiting h]

/-- A waiting probe that meets the next exposure starts before it or is left for its end (R143). -/
theorem State.afterExposure_meets (h : s.guard.probe = .waiting) (hnext : s.hasNext = true) :
    s.afterExposure true = s.takeFree.startProbe.becomeReady
      ∨ s.afterExposure true = s.takeFree.becomeReady := by
  have hmeets : s.afterExposure true = s.probeMeetsExposure := by
    simp [State.afterExposure, h, hnext]
  rw [hmeets, State.probeMeetsExposure]
  split
  · exact .inl rfl
  · exact .inr rfl

end

/-- The state at the end of an exposure: the clock at that moment, the trigger line released, the window
closed. -/
def State.ended (s : State) (e : CurrentExposure) : State :=
  let t := s.advanceTo (e.start + 48 * e.eEff)
  (t.setPosition (t.position.exposureEnded e t.now)).setGuard t.guard.windowClosed

/-- EXPOSURE END at E_eff (R102). -/
theorem exec_exposureEnd {s : State} {e : CurrentExposure}
    (hcurrent : s.position.current = some e) (hexposing : s.position.sequencer = .exposing) :
    exec .exposureEnd s
      = .next ((s.ended e).afterExposure (decide (e.recordState = .closed))) := by
  have hopen : s.position.openWindow = some e := by
    rw [PositionUnit.openWindow, if_pos hexposing, hcurrent]
  have hsteps : e.windowSteps = 48 * e.eEff := Nat.mul_comm _ _
  simp only [exec, execExposureEnd, hopen, hsteps]
  rfl

/-- Passing time leaves the probe as it is. -/
theorem State.ended_probe (s : State) (e : CurrentExposure) :
    (s.ended e).guard.probe = s.guard.probe := by
  have hprobe : (s.guard.progressed (max s.now (e.start + 48 * e.eEff)) s.position s.lamps).probe
      = s.guard.probe := by
    rw [LampProtection.progressed_eq]
  exact hprobe

/-! ## Exposures given up (R104) -/

section
variable {s : State} {e : CurrentExposure} {m : Nat}

/-- The clock moved on while AWAITING FRAME: no window is open, so nothing else moves. -/
theorem State.advanceTo_of_awaiting (h : s.position.sequencer = .awaitingFrame) (n : Nat) :
    s.advanceTo n = s.setNow (max s.now n) :=
  s.advanceTo_of_closed n (by simp [PositionUnit.openWindow, h])

theorem exec_sensorTimeout (hcurrent : s.position.current = some e)
    (hawaiting : s.position.sequencer = .awaitingFrame) (hrecord : e.recordState = .outstanding)
    (hended : e.endedAt = some m) :
    exec .sensorTimeout s = .next ((s.setNow (max s.now (m + 4800000))).setPosition
      { s.position with outstanding := none }).exposureLost := by
  have hdue : s.position.sensorDue = some (m + 4800000) := by
    simp only [PositionUnit.sensorDue, hawaiting, hcurrent, hrecord, hended, if_true]
    rfl
  simp only [exec, execSensorTimeout, hdue, State.advanceTo_of_awaiting hawaiting]
  rfl

theorem exec_readoutLimit (hcurrent : s.position.current = some e)
    (hawaiting : s.position.sequencer = .awaitingFrame) (hrecord : e.recordState = .readingOut)
    (hbegun : e.begunAt = some m) :
    exec .readoutLimit s = .next (s.setNow (max s.now (m + 48000000))).exposureLost := by
  have hdue : s.position.readoutDue = some (m + 48000000) := by
    simp only [PositionUnit.readoutDue, hawaiting, hcurrent, hrecord, hbegun, if_true]
    rfl
  simp only [exec, execReadoutLimit, hdue, State.advanceTo_of_awaiting hawaiting]

end

/-- Settles O50: an exposure ends by what its record and the probe are, or is given up at its limit. -/
theorem exposuresEndOrTimeOut : Obligations.ExposuresEndOrTimeOut := by
  intro s e hcurrent
  refine ⟨?ends, ?lost⟩
  case ends =>
    intro hexposing now g ended probing next
    have hexec := exec_exposureEnd hcurrent hexposing
    have hprobe := s.ended_probe e
    have hnext : (s.ended e).hasNext = true ↔ next := State.hasNext_iff _
    refine ⟨fun hopen => ?_, fun hclosed hidle => ?_, fun hclosed hwaits hnone => ?_,
      fun hclosed hwaits hsome => ?_⟩
    · rw [hexec, decide_eq_false hopen, State.afterExposure_open]
      split
      case isTrue hwaits =>
        rw [State.startWaitingProbe_of_waiting (hprobe.trans hwaits)]
        rfl
      case isFalse hidle =>
        rw [State.startWaitingProbe_of_not (by rwa [hprobe])]
        rfl
    all_goals rw [decide_eq_true hclosed] at hexec
    · rw [hexec, State.afterExposure_closed (by rwa [hprobe])]
      rfl
    · rw [hexec, State.afterExposure_probe (hprobe.trans hwaits)
        (Bool.eq_false_iff.mpr (mt hnext.mp hnone))]
      rfl
    · rcases State.afterExposure_meets (hprobe.trans hwaits) (hnext.mpr hsome) with hfirst | hlater
      · exact .inl (hexec.trans (congrArg _ hfirst))
      · exact .inr (hexec.trans (congrArg _ hlater))
  case lost =>
    intro hawaiting lost
    refine ⟨fun m hrecord hended => ?_, fun m hrecord hbegun => ?_⟩
    · exact exec_sensorTimeout hcurrent hawaiting hrecord hended
    · exact exec_readoutLimit hcurrent hawaiting hrecord hbegun

end Sys2Proof.Machine

/-! PROOFS. The Illumination Unit as an exposure starts and as a frame is handed over: the cycle taken up,
applied duties and trial markers, and each segment judged by its tune state. -/

namespace Sys2Proof.Machine

/-! ## The cycle taken up (R110, R111) -/

section
variable (u : IlluminationUnit)

theorem IlluminationUnit.takeUpCycle_cycle :
    u.takeUpCycle.cycle = u.pendingCycle.getD u.cycle := by
  cases hpending : u.pendingCycle with
  | none => simp [takeUpCycle, hpending]
  | some n =>
    by_cases hsame : n = u.cycle
    · simp [takeUpCycle, hpending, hsame]
    · simp [takeUpCycle, hpending, hsame]

theorem IlluminationUnit.takeUpCycle_pendingCycle : u.takeUpCycle.pendingCycle = none := by
  unfold takeUpCycle
  split
  · assumption
  · split
    · rfl
    · rfl

/-- A different cycle length aborts the segment's tune and rescales its staged duty (R111). -/
theorem IlluminationUnit.get_takeUpCycle (i : Fin 8) :
    u.takeUpCycle.segments.get i =
      if u.pendingCycle.getD u.cycle = u.cycle then u.segments.get i
      else { (u.segments.get i).abortTune with
        staged := (u.segments.get i).abortTune.staged * 2 ^ u.pendingCycle.getD u.cycle
          / 2 ^ u.cycle } := by
  cases hpending : u.pendingCycle with
  | none => simp [takeUpCycle, hpending]
  | some n =>
    by_cases hsame : n = u.cycle
    · simp [takeUpCycle, hpending, hsame]
    · simp [takeUpCycle, hpending, hsame, rescaleDuty]

end

/-! ## An exposure start (R114, R118) -/

theorem appliedDuty_eq (n : Nat) (cause : Cause) (disabled : Bool) (thermal : Thermal)
    (staged : Nat) :
    appliedDuty n (decide (cause = .survey)) disabled thermal staged =
      if cause = .survey ∨ disabled = true ∨ thermal = .shutdown then 0
      else if thermal = .derate then min staged (2 ^ (n - 1))
      else staged := by
  simp [appliedDuty, or_assoc]

/-- No applied duty is above the staged one (R114). -/
theorem appliedDuty_le (n : Nat) (survey disabled : Bool) (thermal : Thermal) (staged : Nat) :
    appliedDuty n survey disabled thermal staged ≤ staged := by
  unfold appliedDuty
  split
  · exact Nat.zero_le _
  · split
    · exact min_le_left ..
    · exact le_refl _

section
variable {d : SegmentDrive}

/-- The first exposure of a trial is noted, a SURVEY aside (R118). -/
theorem SegmentDrive.noteExposure_of_first {trial duty preTune : Nat}
    (h : d.tune = .tuning trial duty none preTune) (q : BitVec 16) :
    d.noteExposure false q = { d with tune := .tuning trial duty (some q) preTune } := by
  simp [noteExposure, h]

theorem SegmentDrive.noteExposure_of_noted {survey : Bool}
    (h : (∀ trial duty preTune, d.tune ≠ .tuning trial duty none preTune) ∨ survey = true)
    (q : BitVec 16) : d.noteExposure survey q = d := by
  unfold noteExposure
  split
  · rename_i htune
    rw [if_pos (h.resolve_left fun hnot => hnot _ _ _ htune)]
  all_goals rfl

end

theorem State.get_exposedLamps (s : State) (cause : Cause) (i : Fin 8) :
    (s.exposedLamps cause).segments.get i =
      (s.lamps.takeUpCycle.segments.get i).exposed s.lamps.takeUpCycle.cycle
        (decide (cause = .survey)) (s.guard.segments.get i).disabled s.guard.thermal
        s.position.nextSequence :=
  Eight.get_build ..

/-- Settles O46: the cycle is taken up first, then each segment forms its duty and its marker. -/
theorem lampsFormTheirDuties : Obligations.LampsFormTheirDuties := by
  intro s cause u n'
  refine ⟨s.lamps.takeUpCycle_cycle, s.lamps.takeUpCycle_pendingCycle, fun i => ?_⟩
  intro old d duty
  have htaken : s.lamps.takeUpCycle.segments.get i = d := s.lamps.get_takeUpCycle i
  have hsegment : u.segments.get i = { d.noteExposure (decide (cause = .survey))
      s.position.nextSequence with applied := duty } := by
    rw [State.get_exposedLamps, htaken, s.lamps.takeUpCycle_cycle, SegmentDrive.exposed,
      appliedDuty_eq]
  refine ⟨fun trial duty' preTune hfirst hcause => ?_, fun hnoted => ?_, ?_⟩
  · rw [hsegment, decide_eq_false hcause, SegmentDrive.noteExposure_of_first hfirst]
  · rw [hsegment, SegmentDrive.noteExposure_of_noted (hnoted.imp_right decide_eq_true)]
  · rw [IlluminationUnit.markers, Eight.get_map, htaken]
    cases htune : d.tune <;> simp [SegmentDrive.marker, htune]

/-! ## A frame handed over (R119 to R127) -/

/-- A frame counts when it carries the trial's marker and is not older than its first exposure (R119). -/
theorem HandOver.counts_iff (c : HandOver) (marker : Option Nat) (trial : Nat)
    (first : Option (BitVec 16)) :
    c.counts marker trial first = true ↔
      ∃ f, first = some f ∧ marker = some trial ∧ (c.record.sequence - f).toNat < 32768 := by
  cases first with
  | none => simp [counts]
  | some f => simp [counts]

section
variable {c : HandOver} {marker : Option Nat} {disabled : Bool} {d : SegmentDrive} {z : ZoneResult}

theorem HandOver.segment_of_steady (h : d.tune = .steady) :
    c.segment marker disabled d z = c.steadyFrame marker disabled d z := by
  simp only [segment, h]

theorem HandOver.segment_of_holdoff {k : Nat} (h : d.tune = .holdoff k) :
    c.segment marker disabled d z = .quiet { d with tune := holdoffFor (k - 1) } := by
  simp only [segment, h]

section
variable {trial duty preTune : Nat} {first : Option (BitVec 16)}

theorem HandOver.segment_of_not_counts (h : d.tune = .tuning trial duty first preTune)
    (hcounts : ¬c.counts marker trial first = true) :
    c.segment marker disabled d z = .quiet d := by
  simp only [segment, h, if_neg hcounts]

theorem HandOver.segment_of_counts (h : d.tune = .tuning trial duty first preTune)
    (hcounts : c.counts marker trial first = true) :
    c.segment marker disabled d z = c.judgeTrial d trial duty preTune z := by
  simp only [segment, h, if_pos hcounts]

theorem HandOver.judgeTrial_of_unseen (h : z.unseen = true) :
    c.judgeTrial d trial duty preTune z =
      { drive := { d with staged := preTune, tune := holdoffFor c.holdoff, verdict := .unseen }
        tuneDone := true, tuneError := true } :=
  if_pos h

theorem HandOver.judgeTrial_of_next (h : z.unseen = false) (hlt : trial < c.n) :
    c.judgeTrial d trial duty preTune z =
      .quiet { d with
        staged := c.nextDuty trial duty z
        tune := .tuning (trial + 1) (c.nextDuty trial duty z) none preTune } := by
  simp [judgeTrial, h, hlt]

theorem HandOver.judgeTrial_of_last (h : z.unseen = false) (hle : c.n ≤ trial) :
    c.judgeTrial d trial duty preTune z = c.finishTune d duty z := by
  simp [judgeTrial, h, Nat.not_lt.mpr hle]

end

theorem HandOver.usable_iff : c.usable marker z = true ↔
    c.record.dark = false ∧ z.unseen = false ∧ z.glare = false ∧ marker = none := by
  simp [usable, and_assoc]

theorem HandOver.retunes_iff : c.retunes disabled d z = true ↔
    c.autoRetune = true ∧ c.band / 8 < ((d.reference : Int) - (c.target : Int)).natAbs
      ∧ c.record.dark = false ∧ z.unseen = false ∧ d.reseed = false ∧ disabled = false
      ∧ c.thermal = .normal := by
  simp only [retunes, Bool.and_eq_true, decide_eq_true_eq, Bool.not_eq_true', and_assoc]
  rfl

end

/-- The reference moves from where it stands toward the mean and never past it (R125). -/
theorem HandOver.movedReference_between (c : HandOver) (r m : Nat) (hlow : 1 ≤ c.beta)
    (hhigh : c.beta ≤ 256) :
    min r m ≤ c.movedReference r m ∧ c.movedReference r m ≤ max r m
      ∧ (c.beta = 256 → c.movedReference r m = m) := by
  have hbetween : min 0 (((m : Int) - r) * 256) ≤ ((m : Int) - r) * c.beta
      ∧ ((m : Int) - r) * c.beta ≤ max 0 (((m : Int) - r) * 256) := by
    rcases le_total (0 : Int) (m - r) with hup | hdown
    · exact ⟨min_le_of_left_le (Int.mul_nonneg hup (by omega)),
        le_max_of_le_right (Int.mul_le_mul_of_nonneg_left (by omega) hup)⟩
    · exact ⟨min_le_of_right_le (Int.mul_le_mul_of_nonpos_left hdown (by omega)),
        le_max_of_le_left (Int.mul_nonpos_of_nonpos_of_nonneg hdown (by omega))⟩
  have hfull (h : c.beta = 256) : ((m : Int) - r) * c.beta = (m - r) * 256 := by rw [h]; rfl
  unfold movedReference
  generalize ((m : Int) - r) * c.beta = move at hbetween hfull
  refine ⟨by omega, by omega, fun h => ?_⟩
  have := hfull h
  omega

/-- Settles O47: the hand-over of a segment, case by case along its tune state. -/
theorem handOverJudgesSegments : Obligations.HandOverJudgesSegments := by
  refine ⟨fun c marker disabled d z => ?_, HandOver.movedReference_between,
    fun s record zones i => Eight.get_build ..⟩
  intro out rest off quiet ended
  refine ⟨fun trial duty first preTune htune => ?trial, fun k htune => ?holdoff,
    fun htune => ?steady⟩
  case trial =>
    intro counts
    have hcounts : c.counts marker trial first = true ↔ counts := c.counts_iff marker trial first
    refine ⟨fun hnot => HandOver.segment_of_not_counts htune (mt hcounts.mp hnot),
      fun h hunseen => ?_, fun h hseen hlt => ?_, fun h hseen hle => ?_⟩
    all_goals have hjudged : out = c.judgeTrial d trial duty preTune z :=
      HandOver.segment_of_counts htune (hcounts.mpr h)
    · exact hjudged.trans (HandOver.judgeTrial_of_unseen hunseen)
    · exact hjudged.trans (HandOver.judgeTrial_of_next hseen hlt)
    · rw [HandOver.judgeTrial_of_last hseen hle] at hjudged
      intro verdict final
      split
      case isTrue hok => exact hjudged.trans (if_pos hok)
      case isFalse hbad => exact hjudged.trans (if_neg hbad)
  case holdoff => exact HandOver.segment_of_holdoff htune
  case steady =>
    intro usable moved
    have hmoved : c.followed marker d z = moved := by
      simp only [HandOver.followed, HandOver.usable_iff]
      rfl
    have hframe : out = c.steadyFrame marker disabled d z := HandOver.segment_of_steady htune
    rw [HandOver.steadyFrame, hmoved] at hframe
    split
    case isTrue hretunes => exact hframe.trans (if_pos (HandOver.retunes_iff.mpr hretunes))
    case isFalse hkeeps => exact hframe.trans (if_neg (mt HandOver.retunes_iff.mp hkeeps))

end Sys2Proof.Machine

/-! PROOFS. The halving search of a tune: the duty of a trial is an odd multiple of the trial's half step,
and the duty of the next trial is one again (R116, R120). -/

namespace Sys2Proof.Machine

/-- A trial duty on the halving search: an odd multiple of `2^(n - trial)` below `2^n` (R120). -/
def OnHalvingSearch (n trial duty : Nat) : Prop :=
  1 ≤ trial ∧ trial ≤ n ∧ ∃ q, q < 2 ^ (trial - 1) ∧ duty = (2 * q + 1) * 2 ^ (n - trial)

/-- The search as TABLE 6-1 states it. -/
theorem onHalvingSearch_iff (n trial duty : Nat) : OnHalvingSearch n trial duty ↔
    1 ≤ trial ∧ trial ≤ n ∧ 1 ≤ duty ∧ duty ≤ 2 ^ n - 1
      ∧ duty % 2 ^ (n + 1 - trial) = 2 ^ (n - trial) := by
  refine and_congr_right fun hfirst => and_congr_right fun hlast => ?_
  have hpos : 0 < 2 ^ (n - trial) := Nat.two_pow_pos _
  have hstep : 2 ^ (n + 1 - trial) = 2 * 2 ^ (n - trial) := by
    rw [← Nat.pow_succ', Nat.sub_add_comm hlast]
  have htop : 2 ^ n = 2 * 2 ^ (n - trial) * 2 ^ (trial - 1) := by
    rw [← Nat.pow_succ', ← Nat.pow_add]
    congr 1
    omega
  rw [hstep, htop]
  generalize 2 ^ (n - trial) = half at hpos
  generalize 2 ^ (trial - 1) = count
  constructor
  · rintro ⟨q, hq, rfl⟩
    have hbound := Nat.mul_le_mul_left (2 * half) hq
    have hduty : (2 * q + 1) * half = 2 * half * q + half := by ring
    rw [Nat.mul_succ] at hbound
    refine ⟨Nat.mul_pos (by omega) hpos, by omega, ?_⟩
    rw [hduty, Nat.mul_add_mod, Nat.mod_eq_of_lt (by omega)]
  · rintro ⟨-, htop, hodd⟩
    have hduty := Nat.div_add_mod duty (2 * half)
    rw [hodd] at hduty
    refine ⟨duty / (2 * half), Nat.lt_of_not_le fun hge => ?_, by linarith⟩
    have := Nat.mul_le_mul_left (2 * half) hge
    omega

/-- Trial 1 stands at half duty (R116). -/
theorem onHalvingSearch_first {n : Nat} (h : 1 ≤ n) : OnHalvingSearch n 1 (2 ^ (n - 1)) :=
  ⟨le_refl 1, h, 0, by simp, by simp⟩

namespace OnHalvingSearch
variable {n trial duty : Nat} (h : OnHalvingSearch n trial duty)
include h

theorem le_top : duty ≤ 2 ^ n := by
  obtain ⟨-, -, -, hle, -⟩ := (onHalvingSearch_iff ..).mp h
  exact hle.trans (Nat.sub_le ..)

/-- The next trial stands half a step above this one, or half a step below (R120). -/
theorem next (hlt : trial < n) :
    OnHalvingSearch n (trial + 1) (duty + 2 ^ (n - 1 - trial))
      ∧ OnHalvingSearch n (trial + 1) (duty - 2 ^ (n - 1 - trial)) := by
  obtain ⟨hfirst, -, q, hq, rfl⟩ := h
  have hhalf : 2 ^ (n - trial) = 2 * 2 ^ (n - 1 - trial) := by
    rw [← Nat.pow_succ']
    congr 1
    omega
  have hnext : n - (trial + 1) = n - 1 - trial := by omega
  have hcount : 2 ^ (trial + 1 - 1) = 2 * 2 ^ (trial - 1) := by
    rw [← Nat.pow_succ']
    congr 1
    omega
  refine ⟨⟨by omega, hlt, 2 * q + 1, by omega, ?_⟩, ⟨by omega, hlt, 2 * q, by omega, ?_⟩⟩
  · rw [hhalf, hnext]
    ring
  · rw [hhalf, hnext]
    refine Nat.sub_eq_of_eq_add ?_
    ring

end OnHalvingSearch

end Sys2Proof.Machine

/-! PROOFS. What keeps the duties within the cycle in force, the trials on the halving search and the
parameters in range: each operation of the Illumination Unit, then each operation of the block. -/

namespace Sys2Proof.Machine

/-! ## A segment at rest or on trial (TABLE 6-1) -/

/-- A segment that is not TUNING, with a HOLDOFF count, if any, of one byte. -/
def SegmentDrive.Resting (d : SegmentDrive) : Prop :=
  ∃ k, k ≤ 255 ∧ d.tune = holdoffFor k

/-- A TUNING segment: its staged duty is the trial duty, and it can go back to its pre-tune duty. -/
def SegmentDrive.OnTrial (d : SegmentDrive) (n : Nat) : Prop :=
  ∃ trial first preTune, d.tune = .tuning trial d.staged first preTune
    ∧ OnHalvingSearch n trial d.staged ∧ preTune ≤ 2 ^ n

theorem SegmentDrive.resting_of_steady {d : SegmentDrive} (h : d.tune = .steady) : d.Resting :=
  ⟨0, Nat.zero_le _, h⟩

theorem SegmentDrive.sound_iff (d : SegmentDrive) (n : Nat) : d.Sound n ↔
    d.staged ≤ 2 ^ n ∧ d.applied ≤ 2 ^ n ∧ (d.Resting ∨ d.OnTrial n) := by
  refine and_congr_right fun hstaged => and_congr_right fun happlied => ?_
  cases htune : d.tune with
  | steady => exact iff_of_true trivial (.inl (resting_of_steady htune))
  | holdoff k =>
    have htrial : ¬d.OnTrial n := by simp [OnTrial, htune]
    rw [or_iff_left htrial]
    constructor
    · rintro ⟨hlow, hhigh⟩
      exact ⟨k, hhigh, htune.trans (if_neg (by omega)).symm⟩
    · rintro ⟨k', hhigh, hk⟩
      rw [htune, holdoffFor] at hk
      split at hk
      · cases hk
      · cases hk
        exact ⟨by omega, hhigh⟩
  | tuning trial duty first preTune =>
    have hrest : ¬d.Resting := by
      rintro ⟨k, -, hk⟩
      rw [htune, holdoffFor] at hk
      split at hk <;> cases hk
    rw [or_iff_right hrest]
    constructor
    · rintro ⟨hfirst, hlast, rfl, hlow, hhigh, hstep, hpre⟩
      exact ⟨trial, first, preTune, htune,
        (onHalvingSearch_iff ..).mpr ⟨hfirst, hlast, hlow, hhigh, hstep⟩, hpre⟩
    · rintro ⟨trial', first', preTune', htune', hsearch, hpre⟩
      cases htune.symm.trans htune'
      obtain ⟨hfirst, hlast, hlow, hhigh, hstep⟩ := (onHalvingSearch_iff ..).mp hsearch
      exact ⟨hfirst, hlast, rfl, hlow, hhigh, hstep, hpre⟩

namespace SegmentDrive.Sound
variable {d : SegmentDrive} {n : Nat}

theorem of_resting (hrest : d.Resting) (hstaged : d.staged ≤ 2 ^ n) (happlied : d.applied ≤ 2 ^ n) :
    d.Sound n :=
  (sound_iff ..).mpr ⟨hstaged, happlied, .inl hrest⟩

theorem of_trial (htrial : d.OnTrial n) (happlied : d.applied ≤ 2 ^ n) : d.Sound n := by
  have hstaged : d.staged ≤ 2 ^ n := by
    obtain ⟨_, _, _, -, hsearch, -⟩ := htrial
    exact hsearch.le_top
  exact (sound_iff ..).mpr ⟨hstaged, happlied, .inr htrial⟩

theorem onTrial (h : d.Sound n) {trial duty preTune : Nat} {first : Option (BitVec 16)}
    (ht : d.tune = .tuning trial duty first preTune) :
    d.staged = duty ∧ OnHalvingSearch n trial duty ∧ preTune ≤ 2 ^ n := by
  obtain ⟨-, -, ⟨k, -, hk⟩ | ⟨_, _, _, htune, hsearch, hpre⟩⟩ := (sound_iff ..).mp h
  · rw [ht, holdoffFor] at hk
    split at hk <;> cases hk
  · cases ht.symm.trans htune
    exact ⟨rfl, hsearch, hpre⟩

/-- A segment that is not TUNING stands at rest. -/
theorem resting (h : d.Sound n)
    (ht : ∀ trial duty first preTune, d.tune ≠ .tuning trial duty first preTune) : d.Resting := by
  obtain ⟨-, -, hrest | ⟨_, _, _, htune, -, -⟩⟩ := (sound_iff ..).mp h
  · exact hrest
  · exact absurd htune (ht _ _ _ _)

variable (h : d.Sound n)
include h

theorem staged_le : d.staged ≤ 2 ^ n := h.1

theorem applied_le : d.applied ≤ 2 ^ n := h.2.1

/-- An aborted tune leaves the segment at rest with its pre-tune duty (R123). -/
theorem abortTune_resting : d.abortTune.Resting ∧ d.abortTune.staged ≤ 2 ^ n
    ∧ d.abortTune.applied = d.applied := by
  cases ht : d.tune with
  | tuning trial duty first preTune =>
    rw [SegmentDrive.abortTune_of_tuning ht]
    exact ⟨resting_of_steady rfl, (h.onTrial ht).2.2, rfl⟩
  | steady | holdoff =>
    rw [SegmentDrive.abortTune_of_not_isTuning (by simp [isTuning, ht])]
    exact ⟨h.resting (by simp [ht]), h.staged_le, rfl⟩

theorem abortTune : d.abortTune.Sound n := by
  obtain ⟨hrest, hstaged, happlied⟩ := h.abortTune_resting
  exact of_resting hrest hstaged (happlied ▸ h.applied_le)

/-- A duty staged over an aborted tune (R113). -/
theorem abortTune_stage {duty : Nat} (hduty : duty ≤ 2 ^ n) :
    { d.abortTune with staged := duty }.Sound n := by
  obtain ⟨hrest, -, happlied⟩ := h.abortTune_resting
  exact of_resting hrest hduty (happlied ▸ h.applied_le)

/-- A tune ended by a fault leaves the segment in HOLDOFF with its pre-tune duty (R124). -/
theorem faultTune {holdoff : Nat} (hk : holdoff ≤ 255) : (d.faultTune holdoff).Sound n := by
  unfold SegmentDrive.faultTune
  split
  · exact of_resting ⟨holdoff, hk, rfl⟩ (h.onTrial ‹_›).2.2 h.applied_le
  · exact h
  · exact h

/-- A tune starts at half duty, on trial 1 (R116). -/
theorem startTune (hn : 1 ≤ n) : (d.startTune n).Sound n :=
  of_trial ⟨1, none, d.staged, rfl, onHalvingSearch_first hn, h.staged_le⟩ h.applied_le

theorem tuned (hn : 1 ≤ n) (o : TuneOutcome) : (d.tuned n o).Sound n := by
  cases o with
  | started => exact h.startTune hn
  | notInMask | inProgress | fault | derated => exact h

end SegmentDrive.Sound

/-! ## An exposure start (R111, R114, R118) -/

/-- Noting the first exposure of a trial leaves the trial as it was. -/
theorem SegmentDrive.Sound.noteExposure {d : SegmentDrive} {n : Nat} (h : d.Sound n)
    (survey : Bool) (q : BitVec 16) : (d.noteExposure survey q).Sound n := by
  unfold SegmentDrive.noteExposure
  split
  · rename_i trial duty preTune ht
    split
    · exact h
    · obtain ⟨rfl, hsearch, hpre⟩ := h.onTrial ht
      exact of_trial ⟨_, _, _, rfl, hsearch, hpre⟩ h.applied_le
  all_goals exact h

/-- The applied duty plays no part in noting an exposure. -/
theorem SegmentDrive.noteExposure_withApplied (d : SegmentDrive) (duty : Nat) (survey : Bool)
    (q : BitVec 16) : { d with applied := duty }.noteExposure survey q
      = { d.noteExposure survey q with applied := duty } := by
  obtain ⟨-, -, tune⟩ := d
  cases tune with
  | steady | holdoff => rfl
  | tuning _ _ first _ =>
    cases first with
    | some _ => rfl
    | none => cases survey <;> rfl

/-- Whatever duty was applied before, an exposure start applies one within the cycle (R114). -/
theorem SegmentDrive.Sound.exposed {d : SegmentDrive} {n : Nat}
    (h : { d with applied := 0 }.Sound n) (survey disabled : Bool) (thermal : Thermal)
    (q : BitVec 16) : (d.exposed n survey disabled thermal q).Sound n := by
  have hnoted := h.noteExposure survey q
  rw [d.noteExposure_withApplied] at hnoted
  exact ⟨hnoted.1, (appliedDuty_le ..).trans h.1, hnoted.2.2⟩

/-- The cycle length, the pending one and every segment within TABLE 6-1. -/
structure IlluminationUnit.Sound (u : IlluminationUnit) : Prop where
  cycle : 8 ≤ u.cycle ∧ u.cycle ≤ 11
  pending : ∀ n, u.pendingCycle = some n → 8 ≤ n ∧ n ≤ 11
  segments : ∀ i, (u.segments.get i).Sound u.cycle

namespace IlluminationUnit.Sound
variable {u : IlluminationUnit} (h : u.Sound)
include h

theorem cycle_pos : 1 ≤ u.cycle :=
  Nat.le_trans (by decide) h.cycle.1

theorem setSegments {v : Eight SegmentDrive} (hv : ∀ i, (v.get i).Sound u.cycle) :
    { u with segments := v }.Sound :=
  ⟨h.cycle, h.pending, hv⟩

theorem setSegment (i : Fin 8) {d : SegmentDrive} (hd : d.Sound u.cycle) :
    { u with segments := u.segments.set i d }.Sound := by
  refine h.setSegments fun j => ?_
  rw [Eight.get_set]
  split
  · exact hd
  · exact h.segments j

theorem mapSegments {f : SegmentDrive → SegmentDrive}
    (hf : ∀ {d : SegmentDrive}, d.Sound u.cycle → (f d).Sound u.cycle) :
    { u with segments := u.segments.map f }.Sound :=
  h.setSegments fun i => (Eight.get_map f u.segments i).symm ▸ hf (h.segments i)

theorem abortTunes : u.abortTunes.Sound :=
  h.mapSegments SegmentDrive.Sound.abortTune

/-- A rescaled duty keeps its share of the cycle (R111). -/
theorem takeUpCycle_segment (i : Fin 8) :
    { u.takeUpCycle.segments.get i with applied := 0 }.Sound u.takeUpCycle.cycle := by
  have hsegment := h.segments i
  rw [u.get_takeUpCycle, u.takeUpCycle_cycle]
  split
  case isTrue hsame =>
    rw [hsame]
    exact ⟨hsegment.1, Nat.zero_le _, hsegment.2.2⟩
  case isFalse hchanged =>
    obtain ⟨hrest, hstaged, -⟩ := hsegment.abortTune_resting
    refine SegmentDrive.Sound.of_resting hrest ?_ (Nat.zero_le _)
    exact Nat.div_le_of_le_mul (Nat.mul_le_mul_right _ hstaged)

theorem exposed (survey : Bool) (g : LampProtection) (q : BitVec 16) :
    (u.exposed survey g q).Sound where
  cycle := by
    change 8 ≤ u.takeUpCycle.cycle ∧ u.takeUpCycle.cycle ≤ 11
    rw [u.takeUpCycle_cycle]
    cases hpending : u.pendingCycle with
    | none => exact h.cycle
    | some n => exact h.pending n hpending
  pending := by
    intro n hn
    cases u.takeUpCycle_pendingCycle.symm.trans hn
  segments := fun i => by
    simp only [IlluminationUnit.exposed, Eight.get_build]
    exact (h.takeUpCycle_segment i).exposed ..

theorem restarted : u.restarted.Sound :=
  h.mapSegments fun hd => hd.abortTune

end IlluminationUnit.Sound

/-! ## A frame handed over (R119 to R127) -/

namespace HandOver
variable {c : HandOver} {d : SegmentDrive}

theorem finishTune_sound (hk : c.holdoff ≤ 255) (h : d.Sound c.n) (duty : Nat) (z : ZoneResult) :
    (c.finishTune d duty z).drive.Sound c.n := by
  unfold finishTune
  split
  · exact .of_resting (SegmentDrive.resting_of_steady rfl) h.staged_le h.applied_le
  · exact .of_resting ⟨_, hk, rfl⟩ h.staged_le h.applied_le

/-- The next trial of a tune is on the halving search again (R120). -/
theorem judgeTrial_sound (hk : c.holdoff ≤ 255) (h : d.Sound c.n) {trial duty preTune : Nat}
    {first : Option (BitVec 16)} (ht : d.tune = .tuning trial duty first preTune) (z : ZoneResult) :
    (c.judgeTrial d trial duty preTune z).drive.Sound c.n := by
  obtain ⟨-, hsearch, hpre⟩ := h.onTrial ht
  unfold judgeTrial
  split
  · exact .of_resting ⟨_, hk, rfl⟩ hpre h.applied_le
  · split
    · rename_i hlt
      have hnext : OnHalvingSearch c.n (trial + 1) (c.nextDuty trial duty z) := by
        unfold nextDuty
        split
        · exact (hsearch.next hlt).1
        · exact (hsearch.next hlt).2
      exact .of_trial ⟨_, _, _, rfl, hnext, hpre⟩ h.applied_le
    · exact finishTune_sound hk h duty z

theorem steadyFrame_sound (hn : 1 ≤ c.n) (h : d.Sound c.n) (marker : Option Nat) (disabled : Bool)
    (z : ZoneResult) : (c.steadyFrame marker disabled d z).drive.Sound c.n := by
  have hfollowed : (c.followed marker d z).Sound c.n := by
    unfold followed
    split
    · split
      · exact h
      · exact h
    · exact h
  unfold steadyFrame
  split
  · exact hfollowed.startTune hn
  · exact hfollowed

theorem segment_sound (hn : 1 ≤ c.n) (hk : c.holdoff ≤ 255) (h : d.Sound c.n)
    (marker : Option Nat) (disabled : Bool) (z : ZoneResult) :
    (c.segment marker disabled d z).drive.Sound c.n := by
  cases ht : d.tune with
  | steady =>
    rw [segment_of_steady ht]
    exact steadyFrame_sound hn h ..
  | holdoff k =>
    rw [segment_of_holdoff ht]
    have hleft : 1 ≤ k ∧ k ≤ 255 := by
      have := h.2.2
      rwa [ht] at this
    exact .of_resting ⟨k - 1, by omega, rfl⟩ h.staged_le h.applied_le
  | tuning trial duty first preTune =>
    by_cases hcounts : c.counts marker trial first = true
    · rw [segment_of_counts ht hcounts]
      exact judgeTrial_sound hk h ht z
    · rw [segment_of_not_counts ht hcounts]
      exact h

end HandOver

end Sys2Proof.Machine

/-! PROOFS. Every command and event keeps the duties, the trials and the parameters sound. -/

namespace Sys2Proof.Machine

/-- The parameters within TABLE 10-3, the cycle length and every segment within TABLE 6-1. -/
structure State.Driven (s : State) : Prop where
  params : s.params.InRange
  lamps : s.lamps.Sound

theorem State.driven_iff (s : State) : s.Driven ↔ s.params.InRange ∧ s.DutiesSound := by
  constructor
  · rintro ⟨hparams, hcycle, hpending, hsegments⟩
    exact ⟨hparams, hcycle.1, hcycle.2, hpending, hsegments⟩
  · rintro ⟨hparams, hlow, hhigh, hpending, hsegments⟩
    exact ⟨hparams, ⟨hlow, hhigh⟩, hpending, hsegments⟩

/-! ## Values taken by SET (R170) -/

theorem takeValue_bounds {lo hi : Nat} (h : lo ≤ hi) (step value : Nat) :
    lo ≤ takeValue lo hi step value ∧ takeValue lo hi step value ≤ hi := by
  have hstepped := Nat.div_mul_le_self (clampNat lo hi value) step
  unfold takeValue clampNat at *
  omega

/-- A value rounded down to a step is a multiple of it when the lowest value is. -/
theorem takeValue_mod {lo step : Nat} (h : lo % step = 0) (hi value : Nat) :
    takeValue lo hi step value % step = 0 := by
  unfold takeValue
  rcases max_choice lo (clampNat lo hi value / step * step) with hmax | hmax
  · rw [hmax, h]
  · rw [hmax, Nat.mul_mod_left]

/-! ## Changes of one block -/

namespace State.Driven
variable {s t : State} (h : s.Driven)
include h

/-- Only the parameters and the Illumination Unit matter. -/
theorem of_eq (hparams : t.params = s.params) (hlamps : t.lamps = s.lamps) : t.Driven where
  params := hparams ▸ h.params
  lamps := hlamps ▸ h.lamps

theorem setPending (l : List Instr) : { s with pending := l }.Driven := h.of_eq rfl rfl
theorem setFreeIndex (n : Nat) : (s.setFreeIndex n).Driven := h.of_eq rfl rfl
theorem setIntake (x : SensorIntake) : (s.setIntake x).Driven := h.of_eq rfl rfl
theorem setSlots (x : SlotPool) : (s.setSlots x).Driven := h.of_eq rfl rfl
theorem setEngine (x : WarpEngine) : (s.setEngine x).Driven := h.of_eq rfl rfl
theorem setViews (x : ViewBankStore) : (s.setViews x).Driven := h.of_eq rfl rfl
theorem setPosition (x : PositionUnit) : (s.setPosition x).Driven := h.of_eq rfl rfl
theorem setGuard (x : LampProtection) : (s.setGuard x).Driven := h.of_eq rfl rfl
theorem setLink (x : LinkUnit) : (s.setLink x).Driven := h.of_eq rfl rfl
theorem count (f : Counters → Counters) : (s.count f).Driven := h.of_eq rfl rfl
theorem advanceTo (n : Nat) : (s.advanceTo n).Driven := h.of_eq rfl rfl

theorem placeReply (tag number : Byte) (a : Answer) : (s.placeReply tag number a).Driven :=
  h.of_eq rfl rfl

theorem latch (ks : List EventKind) : (s.latch ks).Driven :=
  h.of_eq (by simp) (by simp)

theorem markExposure (f : FrameRecord → FrameRecord) : (s.markExposure f).Driven :=
  h.of_eq (by simp) (by simp)

theorem setLamps {x : IlluminationUnit} (hx : x.Sound) : (s.setLamps x).Driven :=
  ⟨h.params, hx⟩

theorem setParams {p : Parameters} (hp : p.InRange) : (s.setParams p).Driven :=
  ⟨hp, h.lamps⟩

theorem setParamsJudged {p : Parameters} (hp : p.InRange) : (s.setParamsJudged p).Driven :=
  ⟨hp, h.lamps⟩

theorem holdoff_le : s.params.tuneHoldoff ≤ 255 := by
  obtain ⟨-, -, -, -, -, -, -, -, -, -, -, -, -, -, -, hle⟩ := h.params
  exact hle

/-! ## Lamp Protection (Chapter 7) -/

theorem detect (i : Fin 8) : (s.detect i).Driven := by
  have hmarked := h.markExposure fun r => { r with ledFault := true }
  have hfaulted := (hmarked.lamps.segments i).faultTune hmarked.holdoff_le
  exact ((hmarked.setLamps (hmarked.lamps.setSegment i hfaulted)).setGuard _).latch _

theorem closeSense (i : Fin 8) (peakCurrent voltage : Nat) :
    (s.closeSense i peakCurrent voltage).Driven := by
  simp only [State.closeSense]
  split
  · exact (h.setGuard _).detect i
  · exact h.setGuard _

theorem cutWindow : s.cutWindow.Driven := by
  unfold State.cutWindow
  split
  · exact h
  · exact (h.setGuard _).markExposure _

theorem enterThermal (thermal : Thermal) : (s.enterThermal thermal).Driven := by
  simp only [State.enterThermal]
  set latched := s.setGuard { s.guard with
    thermal := thermal
    warn := s.guard.warn || decide (thermal = .derate)
    shut := s.guard.shut || decide (thermal = .shutdown) }
  have hlatched : latched.Driven := h.setGuard _
  have hcut : (if thermal = .shutdown then latched.cutWindow else latched).Driven := by
    split
    · exact hlatched.cutWindow
    · exact hlatched
  have haborted {t : State} (ht : t.Driven) :
      (if thermal = .normal then t else t.setLamps t.lamps.abortTunes).Driven := by
    split
    · exact ht
    · exact ht.setLamps ht.lamps.abortTunes
  exact ((haborted hcut).setGuard _).latch _

theorem sampled (temperature : Int) : (s.sampled temperature).Driven := by
  simp only [State.sampled]
  split
  · exact h.setGuard _
  · exact (h.setGuard _).enterThermal _

theorem startWaitingProbe : s.startWaitingProbe.Driven := by
  unfold State.startWaitingProbe
  split
  · exact h.setGuard _
  · exact h

/-! ## Triggers and exposures (Chapter 5) -/

theorem startExposure (cause : Cause) (tag : Int) : (s.startExposure cause tag).Driven := by
  have hlamps := h.lamps.exposed (decide (cause = .survey)) s.guard s.position.nextSequence
  exact (((h.setPosition (s.exposingUnit cause tag)).setLamps hlamps).setGuard _).latch _

theorem raiseTrigger (cause : Cause) (tag : Int) : (s.raiseTrigger cause tag).Driven := by
  unfold State.raiseTrigger
  split
  · exact h.startExposure _ _
  · unfold State.pendTrigger
    split
    · exact h.setPosition _
    · exact ((h.setPosition _).count _).latch _

theorem takeUpNext : s.takeUpNext.Driven := by
  unfold State.takeUpNext
  split
  · exact h.startExposure _ _
  · split
    · exact h
    · exact (h.setPosition _).startExposure _ _

theorem becomeReady : s.becomeReady.Driven :=
  (h.setPosition _).takeUpNext

theorem takeUpArmed (armed : Bool) : (s.takeUpArmed armed).Driven := by
  unfold State.takeUpArmed
  split
  · exact h.takeUpNext
  · exact h

theorem reportEnd (q : BitVec 16) : (s.reportEnd q).Driven := by
  simp only [State.reportEnd]
  split
  · split
    · exact (h.setPosition _).becomeReady
    · exact h.setPosition _
  · exact h

theorem raiseTime : s.raiseTime.Driven :=
  (h.setPosition _).raiseTrigger _ _

theorem raiseIfDue : s.raiseIfDue.Driven := by
  unfold State.raiseIfDue
  split
  · exact h.raiseTime
  · exact h

theorem enterPark : s.enterPark.Driven :=
  ((h.setPosition _).latch _).raiseIfDue

theorem parkIfPassed : s.parkIfPassed.Driven := by
  unfold State.parkIfPassed
  split
  · exact h.enterPark
  · exact h

theorem enterDwell : s.enterDwell.Driven :=
  ((h.setPosition _).latch _).raiseIfDue.parkIfPassed

theorem dwellIfPassed : s.dwellIfPassed.Driven := by
  unfold State.dwellIfPassed
  split
  · exact h.enterDwell
  · exact h

theorem raiseDistance (target : Int) : (s.raiseDistance target).Driven :=
  (h.setPosition _).raiseTrigger _ _

theorem distanceTest : s.distanceTest.Driven := by
  unfold State.distanceTest
  split
  · exact h.raiseDistance _
  · split
    · exact h.raiseDistance _
    · exact h

theorem creepTest : s.creepTest.Driven := by
  unfold State.creepTest
  split
  · exact h.raiseDistance _
  · split
    · exact h.raiseDistance _
    · exact h

theorem wakeTest : s.wakeTest.Driven := by
  unfold State.wakeTest
  split
  · exact (h.setPosition _).creepTest.latch _
  · exact h

theorem afterExposure (closed : Bool) : (s.afterExposure closed).Driven := by
  unfold State.afterExposure
  split
  · split
    · unfold State.probeMeetsExposure
      split
      · exact ((h.setFreeIndex _).setGuard _).becomeReady
      · exact (h.setFreeIndex _).becomeReady
    · exact h.startWaitingProbe.becomeReady
  · exact h.startWaitingProbe

theorem exposureLost : s.exposureLost.Driven :=
  (((h.setPosition _).count _).latch _).becomeReady

/-! ## Frames from the sensor (Chapter 4) -/

theorem fillLine (i : SlotId) (pixels : List (BitVec 12)) : (s.fillLine i pixels).Driven := by
  unfold State.fillLine
  split
  · exact h
  · split
    · exact h.count _
    · split
      · exact (h.setSlots _).setIntake _
      · exact ((h.setSlots _).setIntake _).count _

theorem completeFrame (i : SlotId) (r : FrameRecord) : (s.completeFrame i r).Driven :=
  (((h.setSlots _).setIntake _).latch _).reportEnd _

theorem voidFrame (i : SlotId) (r : FrameRecord) : (s.voidFrame i r).Driven :=
  ((((((h.setSlots _).setIntake _).setPosition _).count _).latch _).reportEnd _).takeUpArmed _

theorem endFrame : s.endFrame.Driven := by
  unfold State.endFrame
  split
  · exact h
  · unfold State.endFilling
    split
    · exact h.setIntake _
    · split
      · exact h.voidFrame _ _
      · exact h.completeFrame _ _
  · simp only [State.endPassing]
    split
    · exact (h.setIntake _).reportEnd _
    all_goals exact h.setIntake _

theorem beginFrame : s.beginFrame.Driven := by
  simp only [State.beginFrame]
  split
  · exact (((h.setIntake _).setIntake _).count _).latch _
  · split
    · exact (((((h.setIntake _).setIntake _).setPosition _).setPosition _).count _).latch _
    · exact ((((h.setIntake _).setSlots _).setIntake _).setPosition _).setPosition _

/-! ## The frame in hand (Chapter 2) -/

/-- A new zone map aborts every tune (R23, R123). -/
theorem startFrame (t : FrameTake) : (s.startFrame t).Driven := by
  have haborted : (if s.views.changesZones then s.lamps.abortTunes else s.lamps).Sound := by
    split
    · exact h.lamps.abortTunes
    · exact h.lamps
  exact ((((h.setEngine _).setSlots _).setViews _).setLamps haborted).latch _

theorem claimPlaces (r : Run) : (s.claimPlaces r).1.Driven := by
  unfold State.claimPlaces
  split
  · exact h
  · split
    · exact h.setEngine _
    · exact h.setEngine _

theorem placeVideo (cells : List Cell) : (s.placeVideo cells).Driven :=
  (h.setLink _).setEngine _

theorem produce (r : Run) : (s.produce r).Driven := by
  unfold State.produce
  split
  · exact (h.placeVideo _).setEngine _
  · split
    · exact h
    · exact (h.placeVideo _).setEngine _
  · exact h

/-- A frame handed over judges each segment by the cycle and the HOLDOFF in force (R119 to R126). -/
theorem handFrame (record : FrameRecord) (zones : Eight ZoneResult) :
    (s.handFrame record zones).Driven := by
  refine (h.setLamps (h.lamps.setSegments fun i => ?_)).latch _
  rw [Eight.get_map, State.handOverOutcomes, Eight.get_build]
  exact HandOver.segment_sound (c := s.handOver record) h.lamps.cycle_pos h.holdoff_le
    (h.lamps.segments i) ..

theorem endWarp (r : Run) (record : FrameRecord) : (s.endWarp r record).Driven :=
  ((((h.placeVideo _).setSlots _).handFrame record _).setLink _).setEngine _

theorem endStall : s.endStall.Driven := by
  unfold State.endStall
  split
  · exact h
  · split
    · exact h.setEngine _
    · exact h

/-! ## Cells, ports and sending (Chapters 8 and 9) -/

theorem forwardCommand (c : Cell) : (s.forwardCommand c).Driven := by
  unfold State.forwardCommand
  split
  · exact h.setLink _
  · split
    · exact h
    · split
      · exact h.setLink _
      · exact h.count _

theorem receiveUpward (c : Cell) : (s.receiveUpward c).Driven := by
  unfold State.receiveUpward
  split
  · split
    · exact h.setLink _
    · exact h.setLink _
  · exact h

theorem takeRollCall (c : Cell) : (s.takeRollCall c).Driven := by
  unfold State.takeRollCall State.overlongRollCall State.passRollCall State.turnRollCall
  split
  · split <;> exact h.setLink _
  · split
    · split <;> exact h.setLink _
    · split <;> exact h.setLink _

theorem portDown (p : PortId) (midCell : Bool) : (s.portDown p midCell).Driven := by
  unfold State.portDown
  split
  · exact (h.setLink _).latch _
  · exact h

theorem receiveSymbol (p : PortId) (hold : Bool) : (s.receiveSymbol p hold).Driven := by
  unfold State.receiveSymbol
  split
  · exact h.setLink _
  · exact h

theorem chooseManagement (c : Cell) (rest : List Cell) : (s.chooseManagement c rest).Driven := by
  unfold State.chooseManagement State.payStatus
  split
  · exact h.setLink _
  · exact h.setLink _

theorem chooseVideo : s.chooseVideo.Driven := by
  have hown (c : Cell) (rest : List Cell) : (s.chooseOwn c rest).Driven :=
    (h.setLink _).endStall
  unfold State.chooseVideo
  split
  · exact hown _ _
  · exact h.setLink _
  · exact h.setLink _
  · exact hown _ _
  · exact h.setLink _
  · exact h.setLink _

/-! ## Commands -/

theorem setChoice {α : Type} {identifier : Byte} {value : Word} {choice : Nat → Option α}
    {store : α → State} (hstore : ∀ x, (store x).Driven) :
    (Machine.setChoice identifier value choice store s).2.Driven := by
  unfold Machine.setChoice
  split
  · exact h
  · exact hstore _

theorem ownSetLedCycle (value : Word) : (Machine.ownSetLedCycle value s).2.Driven := by
  refine h.setLamps ⟨h.lamps.cycle, fun n hn => ?_, h.lamps.segments⟩
  cases hn
  exact takeValue_bounds (by decide) 1 _

theorem ownSetDuty (segment : Byte) (value : Word) : (Machine.ownSetDuty segment value s).2.Driven := by
  unfold Machine.ownSetDuty
  split
  · exact h
  · exact (h.setLamps (h.lamps.setSegment _
      ((h.lamps.segments _).abortTune_stage (Nat.min_le_right ..)))).latch _

theorem ownTune (mask : Byte) : (Machine.ownTune mask s).2.Driven := by
  refine (h.setLamps (h.lamps.setSegments fun i => ?_)).latch _
  rw [Eight.get_build]
  exact (h.lamps.segments i).tuned h.lamps.cycle_pos _

theorem ownReseed (mask : Byte) : (Machine.ownReseed mask s).2.Driven := by
  refine h.setLamps (h.lamps.setSegments fun i => ?_)
  rw [Eight.get_build]
  split
  · exact h.lamps.segments i
  · exact h.lamps.segments i

theorem ownProbe : (Machine.ownProbe s).2.Driven := by
  unfold Machine.ownProbe
  split
  · exact h
  · exact h
  · split
    · exact h.setGuard _
    · exact h.setGuard _

theorem ownDarkSurvey : (Machine.ownDarkSurvey s).2.Driven := by
  unfold Machine.ownDarkSurvey
  split
  · exact (h.setIntake _).takeUpArmed _
  · exact h
  · exact h

/-! The commands of Chapter 3 set the View Bank Store alone, edit commands Sensor Intake alone. -/

theorem ownTableOpen (bank : Byte) (width height fill : BitVec 16) (label : List Byte) :
    (Machine.ownTableOpen bank width height fill label s).2.Driven := by
  unfold Machine.ownTableOpen
  split
  · exact h
  · split
    · exact h
    · exact h
    · split
      · exact h
      · exact h.setViews _
    · exact h.setViews _
    · exact h.setViews _

theorem ownTableData (used : Byte) (bank part : BitVec 4) (number : BitVec 16)
    (entries : List Byte) : (Machine.ownTableData used bank part number entries s).2.Driven := by
  unfold Machine.ownTableData
  split
  · unfold loadSegment
    split
    · exact h
    · split
      · exact h
      · split
        · exact h
        · exact h.setViews _
  · exact h
  · exact h

theorem ownTableClose (bank : Byte) : (Machine.ownTableClose bank s).2.Driven := by
  unfold Machine.ownTableClose
  split
  · exact h
  · split
    · exact h.setViews _
    · exact h

theorem ownCommitView (bank : Byte) : (Machine.ownCommitView bank s).2.Driven := by
  unfold Machine.ownCommitView
  split
  · exact h
  · split
    · exact h.setViews _
    · exact h.setViews _
    all_goals exact h

theorem ownDefectAdd (row : BitVec 10) (column : BitVec 11) (method : BitVec 2) :
    (Machine.ownDefectAdd row column method s).2.Driven := by
  unfold Machine.ownDefectAdd
  split
  · exact h
  · split
    · exact h
    · split
      · exact h
      · split
        · exact h
        · split
          · exact h
          · exact h.setIntake _

theorem ownDefectRemove (row : BitVec 10) (column : BitVec 11) :
    (Machine.ownDefectRemove row column s).2.Driven := by
  unfold Machine.ownDefectRemove
  split
  · exact h
  · split
    · exact h
    · split
      · exact h.setIntake _
      · exact h

theorem ownDefectClear (originFilter : Byte) : (Machine.ownDefectClear originFilter s).2.Driven := by
  unfold Machine.ownDefectClear
  split
  · exact h
  · split
    · exact h
    · exact h.setIntake _

theorem decodeAnswer (number : Byte) (code : ReplyCode) :
    (Machine.decodeAnswer number code s).2.Driven := by
  unfold Machine.decodeAnswer
  split
  · exact h
  · exact h

omit h in
/-- A numeric parameter stored within its range, on its step. -/
theorem setNumber {identifier : Byte} {value : Word} {lo hi step : Nat} {store : Nat → State}
    (hrange : lo ≤ hi) (hstep : lo % step = 0)
    (hstore : ∀ n, lo ≤ n → n ≤ hi → n % step = 0 → (store n).Driven) :
    (Machine.setNumber identifier value lo hi step store).2.Driven :=
  hstore _ (takeValue_bounds hrange ..).1 (takeValue_bounds hrange ..).2 (takeValue_mod hstep ..)

/-- A numbered command keeps the duties, the trials and the parameters sound. -/
theorem ownerOf {i : Instr} {number : Byte} {owner : State → Answer × State}
    (ho : Machine.ownerOf i = some (number, owner)) : (owner s).2.Driven := by
  have hparams := h.params
  simp only [Parameters.InRange] at hparams
  cases i with
  | readIdentity | readStatus | readCounters | readZoneStats | readBankInfo | readTableVerdict
  | readDefectEntries | readParameter | readProbeResult | readTemperature => cases ho; exact h
  | setSourceWidth | setSourceHeight | setBlackLevel | setDarkThreshold | setExposure | setBlurLimit
  | setBrightnessTarget | setTuneBand | setReferenceBeta | setTuneHoldoff =>
    cases ho
    refine setNumber (by decide) (by decide) fun n hlow hhigh hstep => h.setParams ?_
    simp only [Parameters.InRange]
    omega
  | setTriggerStep =>
    cases ho
    exact setNumber (by decide) (by decide) fun n hlow hhigh _ =>
      (h.setParams (by simp only [Parameters.InRange]; omega)).setPosition _
  | setDwellTimeout =>
    cases ho
    exact setNumber (by decide) (by decide) fun n hlow hhigh _ =>
      (h.setParams (by simp only [Parameters.InRange]; omega)).dwellIfPassed
  | setParkTimeout =>
    cases ho
    exact setNumber (by decide) (by decide) fun n hlow hhigh _ =>
      (h.setParams (by simp only [Parameters.InRange]; omega)).parkIfPassed
  | setDwellInterval | setParkInterval =>
    cases ho
    exact setNumber (by decide) (by decide) fun n hlow hhigh _ =>
      (h.setParams (by simp only [Parameters.InRange]; omega)).raiseIfDue
  | setWakeDistance =>
    cases ho
    exact setNumber (by decide) (by decide) fun n hlow hhigh _ =>
      (h.setParams (by simp only [Parameters.InRange]; omega)).wakeTest
  | setEventMask => cases ho; exact h.setParams h.params
  | setAutoRetune | setReportMode | setLedFaultResponse =>
    cases ho; exact h.setChoice fun _ => h.setParams h.params
  | setLedFaultReport | setThermalReport =>
    cases ho; exact h.setChoice fun _ => h.setParamsJudged h.params
  | setLedCycle => cases ho; exact h.ownSetLedCycle _
  | setDuty => cases ho; exact h.ownSetDuty ..
  | tune => cases ho; exact h.ownTune _
  | reseed => cases ho; exact h.ownReseed _
  | tableOpen => cases ho; exact h.ownTableOpen ..
  | tableData => cases ho; exact h.ownTableData ..
  | tableClose => cases ho; exact h.ownTableClose ..
  | commitView => cases ho; exact h.ownCommitView ..
  | rawView => cases ho; exact h.setViews _
  | defectAdd => cases ho; exact h.ownDefectAdd ..
  | defectRemove => cases ho; exact h.ownDefectRemove ..
  | defectClear => cases ho; exact h.ownDefectClear ..
  | darkSurvey => cases ho; exact h.ownDarkSurvey
  | probe => cases ho; exact h.ownProbe
  | snap => cases ho; exact h.raiseTrigger ..
  | zeroOdometer => cases ho; exact (h.setPosition _).wakeTest
  | clearFaults => cases ho; exact h.setGuard _
  | ackReset => cases ho; exact h.setLink _
  | _ => cases ho

/-! ## Consumed commands and command cells -/

theorem consume {tag number : Byte} {owner : State → Answer × State}
    (ho : ∀ {u : State}, u.Driven → (owner u).2.Driven) :
    (Machine.consume tag number owner s).Driven := by
  unfold Machine.consume
  split
  · exact (ho (h.setLink _)).placeReply _ _ _
  · exact h.count _

/-- RESTART aborts every tune and keeps the duties and the parameters (R129, TABLE 10-7). -/
theorem executeRestart (tag : Byte) : (s.executeRestart tag).Driven := by
  have hblocks := ((((h.setEngine s.engine.restarted).setIntake s.intake.restarted).setSlots
    SlotPool.reset).setViews s.views.restarted).setPosition s.position.restarted
  exact (((hblocks.setLamps h.lamps.restarted).setGuard _).setLink _).placeReply _ _ _

theorem executeCell (c : Cell) : (s.executeCell c).Driven := by
  unfold State.executeCell
  split
  · exact h.executeRestart _
  · split
    · exact h.consume fun hu => hu.ownerOf ‹_›
    · exact h
  · exact h.consume fun hu => hu.decodeAnswer _ _

theorem routeCommand (c : Cell) : (s.routeCommand c).Driven := by
  unfold State.routeCommand
  split
  · exact (h.executeCell c).forwardCommand c
  · split
    · exact h.executeCell c
    · exact h.forwardCommand c

theorem receiveCommand (c : Cell) : (s.receiveCommand c).Driven := by
  unfold State.receiveCommand
  split
  · split
    · exact h.routeCommand c
    · exact h.count _
  · exact h

theorem acceptCell (p : PortId) (c : Cell) : (s.acceptCell p c).Driven := by
  unfold State.acceptCell
  split
  · exact h.setLink _
  · split
    · exact h.routeCommand c
    · exact h.takeRollCall c

end State.Driven

/-! ## Every command and event -/

/-- The reset values of the lamps and the defaults of TABLE 10-3 are sound (R128). -/
theorem State.reset_driven : State.reset.Driven where
  params := by unfold Parameters.InRange; decide
  lamps :=
    { cycle := by decide
      pending := fun _ hn => by cases hn
      segments := fun i => by
        simp only [State.reset, IlluminationUnit.reset, Eight.get_all]
        exact .of_resting (SegmentDrive.resting_of_steady rfl) (Nat.zero_le _) (Nat.zero_le _) }

theorem State.afterReset_driven (s : State) (a b : Bool) (temperature : Int) :
    (s.afterReset a b temperature).Driven :=
  State.reset_driven.of_eq (by rw [State.afterReset_eq]) (by rw [State.afterReset_eq])

section
variable {s t : State}

/-- What no owner executes: the events, the command cells, RESTART and the resets. -/
theorem exec_driven_of_ownerOf_none {i : Instr} (ho : ownerOf i = none) (h : s.Driven) :
    ∃ t, exec i s = .next t ∧ t.Driven := by
  cases i with
  | powerOnReset | lineReset => exact ⟨_, rfl, s.afterReset_driven _ _ _⟩
  | restart => exact ⟨_, rfl, h.executeRestart _⟩
  | commandCell => exact ⟨_, rfl, h.receiveCommand _⟩
  | cellError p =>
    refine ⟨_, rfl, ?_⟩
    split
    · split
      · exact h.count _
      · exact h.acceptCell p _
    · exact h
  | tableCheckCompletion b =>
    refine ⟨_, rfl, ?_⟩
    split
    · exact h
    · exact (h.setViews _).latch _
  | rollCall =>
    refine ⟨_, rfl, ?_⟩
    split
    · split
      · exact h.takeRollCall _
      · exact h.count _
    · exact h
  | upwardCellReceipt => exact ⟨_, rfl, h.receiveUpward _⟩
  | hold | go => exact ⟨_, rfl, h.receiveSymbol _ _⟩
  | portUp =>
    refine ⟨_, rfl, ?_⟩
    split
    · exact h
    · exact (h.setLink _).latch _
  | portLockLoss | portSymbolTimeout => exact ⟨_, rfl, h.portDown _ _⟩
  | tetherArbiterChoice =>
    refine ⟨_, rfl, ?_⟩
    split
    · split
      · exact h.chooseManagement _ _
      · exact h.chooseVideo
    · exact h.setLink _
  | chainOutboundSend =>
    refine ⟨_, rfl, ?_⟩
    split
    · split
      · exact h.setLink _
      · exact h.setLink _
    · exact h.setLink _
  | frameBegin => exact ⟨_, rfl, h.endFrame.beginFrame⟩
  | line pixels =>
    refine ⟨_, rfl, ?_⟩
    split
    · exact h.fillLine _ pixels
    · exact h
    · exact h
  | frameEnd => exact ⟨_, rfl, h.endFrame⟩
  | warpFrameStart =>
    refine ⟨_, rfl, ?_⟩
    split
    · exact h
    · exact h.startFrame _
  | itemProduction =>
    refine ⟨_, rfl, ?_⟩
    split
    · exact h
    · split
      · exact h
      · split
        · exact (h.claimPlaces _).produce _
        · exact h.claimPlaces _
  | warpFrameEnd =>
    refine ⟨_, rfl, ?_⟩
    split
    · exact h
    · split
      · split
        · exact (h.claimPlaces _).endWarp _ _
        · exact h.claimPlaces _
      all_goals exact h
  | odometerCount =>
    refine ⟨_, rfl, ?_⟩
    split
    · exact (h.setPosition _).distanceTest
    · exact (h.setPosition _).wakeTest
  | odoGlitch => exact ⟨_, rfl, (h.setPosition _).count _⟩
  | speedWindow => exact ⟨_, rfl, (h.advanceTo _).setPosition _⟩
  | dwellTimer =>
    refine ⟨_, rfl, ?_⟩
    split
    · exact (h.advanceTo _).enterDwell
    · exact h
  | parkTimer =>
    refine ⟨_, rfl, ?_⟩
    split
    · exact (h.advanceTo _).enterPark
    · exact h
  | timeTrigger =>
    refine ⟨_, rfl, ?_⟩
    split
    · exact h
    · exact (h.advanceTo _).raiseTime
  | exposureEnd =>
    refine ⟨_, rfl, ?_⟩
    split
    · exact h
    · exact (((h.advanceTo _).setPosition _).setGuard _).afterExposure _
  | sensorTimeout =>
    refine ⟨_, rfl, ?_⟩
    split
    · exact h
    · exact ((h.advanceTo _).setPosition _).exposureLost
  | readoutLimit =>
    refine ⟨_, rfl, ?_⟩
    split
    · exact h
    · exact (h.advanceTo _).exposureLost
  | senseWindowClose =>
    refine ⟨_, rfl, ?_⟩
    split
    · exact h
    · exact (h.advanceTo _).closeSense _ _ _
  | overcurrent i =>
    refine ⟨_, rfl, ?_⟩
    split
    · exact (h.setGuard _).detect i
    · exact h
  | thermalSample => exact ⟨_, rfl, ((h.advanceTo _).setGuard _).sampled _⟩
  | probeCompletion =>
    refine ⟨_, rfl, ?_⟩
    split
    · exact ((h.advanceTo _).setGuard _).latch _
    · exact h
  | _ => cases ho

theorem exec_driven (i : Instr) (h : s.Driven) : ∃ t, exec i s = .next t ∧ t.Driven := by
  cases ho : ownerOf i with
  | none => exact exec_driven_of_ownerOf_none ho h
  | some owned =>
    obtain ⟨tag, hexec⟩ := exec_of_ownerOf ho s
    exact ⟨_, hexec, h.consume fun hu => hu.ownerOf ho⟩

theorem step_driven (h : s.Driven) (hstep : step s = .next t) : t.Driven := by
  cases hp : s.pending with
  | nil =>
    simp only [step, hp, Host.Outcome.next.injEq] at hstep
    subst hstep
    exact h.advanceTo _
  | cons c rest =>
    obtain ⟨u, hexec, hdriven⟩ := exec_driven c (h.setPending rest)
    simp only [step, hp, hexec, Host.Outcome.next.injEq] at hstep
    exact hstep ▸ hdriven

end

/-- Settles O57: the lamps' invariant, with the parameters that HOLDOFF counts come from, is kept by every
step. -/
theorem stepsKeepDutiesAndParameters : Obligations.StepsKeepDutiesAndParameters := by
  intro s t hparams hduties hstep
  exact t.driven_iff.mp (step_driven (s.driven_iff.mpr ⟨hparams, hduties⟩) hstep)

end Sys2Proof.Machine

/-! PROOFS. An idle step, and the events that come when the block gives them nothing to do. -/

namespace Sys2Proof.Machine

/-! ## An idle step (R109, R130) -/

section
variable {s : State}

theorem step_of_idle (h : s.pending = []) : step s = .next (s.advanceTo (s.now + 1)) := by
  simp only [step, h]
  rfl

/-- No window is open outside an exposure (R109). -/
theorem PositionUnit.openWindow_of_not_exposing {u : PositionUnit} (h : u.sequencer ≠ .exposing) :
    u.openWindow = none :=
  if_neg h

theorem progressAt_of_done {n elapsed : Nat} {g : SegmentGuard} {d : SegmentDrive}
    (h : g.turnedOff = true ∨ 960 ≤ g.progress) : progressAt n elapsed g d = g :=
  if_pos (by rwa [Bool.or_eq_true, decide_eq_true_iff])

/-- A lit segment's sense progress runs with its on-steps up to 959 (R130). -/
theorem progressAt_of_running {n elapsed : Nat} {g : SegmentGuard} {d : SegmentDrive}
    (hlit : g.turnedOff = false) (hopen : g.progress < 960) :
    (progressAt n elapsed g d).progress
      = max g.progress (min 959 (onSteps n d.applied elapsed)) := by
  have hruns : ¬(g.turnedOff || decide (Config.senseSteps ≤ g.progress)) = true := by
    rw [hlit, Bool.false_or, decide_eq_true_iff]
    exact Nat.not_le.mpr hopen
  rw [progressAt, if_neg hruns]
  rfl

/-- Lamp Protection at a moment of an open window, its segments' sense progress run on (R130). -/
theorem LampProtection.progressed_of_open (g : LampProtection) (now : Nat) {u : PositionUnit}
    {e : CurrentExposure} (h : u.openWindow = some e) (lamps : IlluminationUnit) :
    g.progressed now u lamps = { g with
      segments := Eight.build fun i =>
        progressAt lamps.cycle (min (now - e.start) (48 * e.eEff)) (g.segments.get i)
          (lamps.segments.get i) } := by
  have hsteps : e.windowSteps = 48 * e.eEff := Nat.mul_comm _ _
  simp only [progressed, h, hsteps]

/-! ## Events out of place -/

theorem exec_tableCheckCompletion_of_not_checking {b : BankId}
    (h : (s.views.get b).state ≠ .checking) : exec (.tableCheckCompletion b) s = .next s := by
  have hbasis : (s.views.get b).checkBasis = none := if_neg h
  simp only [exec, execTableCheckCompletion, hbasis]

theorem State.nextFrame_eq_none (h : s.engine.run ≠ none ∨ s.slots.readyOrder = []) :
    s.nextFrame = none := by
  unfold State.nextFrame
  split
  · rename_i hrun hready
    rcases h with h | h
    · exact absurd hrun h
    · cases hready.symm.trans h
  · rfl
  · rfl

theorem exec_warpFrameStart_of_nothing (h : s.engine.run ≠ none ∨ s.slots.readyOrder = []) :
    exec .warpFrameStart s = .next s := by
  simp only [exec, execWarpFrameStart, State.nextFrame_eq_none h]

theorem exec_engine_of_idle (h : s.engine.run = none) :
    exec .itemProduction s = .next s ∧ exec .warpFrameEnd s = .next s := by
  simp only [exec, execItemProduction, execWarpFrameEnd, h, and_self]

theorem exec_dwellTimer_of_stopped (h : s.position.mode ≠ .travel ∨ s.params.dwellTimeout = 0) :
    exec .dwellTimer s = .next s :=
  congrArg _ (if_neg (by rw [State.dwellRuns_iff]; tauto))

theorem exec_parkTimer_of_stopped (h : s.position.mode ≠ .dwell ∨ s.params.parkTimeout = 0) :
    exec .parkTimer s = .next s :=
  congrArg _ (if_neg (by rw [State.parkRuns_iff]; tauto))

theorem exec_timeTrigger_of_travel (h : s.position.mode = .travel) :
    exec .timeTrigger s = .next s :=
  congrArg _ (if_pos h)

/-- With no window open an exposure does not end, nor is its current sensed (R102, R130, R133). -/
theorem exec_exposure_of_closed (h : s.position.openWindow = none) :
    exec .exposureEnd s = .next s
      ∧ (∀ i peak voltage, exec (.senseWindowClose i peak voltage) s = .next s)
      ∧ ∀ i current, exec (.overcurrent i current) s = .next s := by
  refine ⟨?_, fun i peak voltage => ?_, fun i current => ?_⟩
  · simp only [exec, execExposureEnd, h]
  · simp only [exec, execSenseWindowClose, State.sensedWindow, h]
  · have hdark : ¬(s.segmentLit i = true ∧ Config.currentLimit < current) := by
      simp [State.segmentLit, h]
    exact congrArg _ (if_neg hdark)

/-- The two limits of an exposure run only while its frame is awaited (R104). -/
theorem exec_limits_of_not_awaiting (h : s.position.sequencer ≠ .awaitingFrame) :
    exec .sensorTimeout s = .next s ∧ exec .readoutLimit s = .next s := by
  have hsensor : s.position.sensorDue = none :=
    Option.eq_none_iff_forall_ne_some.mpr fun _ hdue => h (PositionUnit.awaiting_of_sensorDue hdue)
  have hreadout : s.position.readoutDue = none :=
    Option.eq_none_iff_forall_ne_some.mpr fun _ hdue => h (PositionUnit.awaiting_of_readoutDue hdue)
  simp only [exec, execSensorTimeout, execReadoutLimit, hsensor, hreadout, and_self]

theorem exec_probeCompletion_of_not_probing (h : s.guard.probe ≠ .probing)
    (strings : Eight StringReading) : exec (.probeCompletion strings) s = .next s :=
  congrArg _ (if_neg h)

end

/-- Settles O2: an idle step is the clock moved on by one; each event out of place finds its guard shut. -/
theorem idleStepsAndEventsOutOfPlace : Obligations.IdleStepsAndEventsOutOfPlace := by
  refine ⟨fun s hidle => ⟨fun hclosed => ?_, fun e hopen => ?_⟩, fun s => ?_⟩
  · rw [step_of_idle hidle, s.advanceTo_of_closed _ hclosed, Nat.max_eq_right (Nat.le_succ _)]
    rfl
  · have hnow : max s.now (s.now + 1) = s.now + 1 := Nat.max_eq_right (Nat.le_succ _)
    refine ⟨Eight.build fun i => progressAt s.lamps.cycle
        (min (s.now + 1 - e.start) (48 * e.eEff)) (s.guard.segments.get i) (s.lamps.segments.get i),
      ?_, fun i => ?_⟩
    · rw [step_of_idle hidle, State.advanceTo, hnow, s.guard.progressed_of_open _ hopen]
      rfl
    · rw [Eight.get_build]
      exact ⟨progressAt_eq .., progressAt_of_done, progressAt_of_running⟩
  · exact ⟨fun _ => exec_tableCheckCompletion_of_not_checking, exec_warpFrameStart_of_nothing,
      exec_engine_of_idle, exec_dwellTimer_of_stopped, exec_parkTimer_of_stopped,
      exec_timeTrigger_of_travel,
      fun h => exec_exposure_of_closed (PositionUnit.openWindow_of_not_exposing h),
      exec_limits_of_not_awaiting, exec_probeCompletion_of_not_probing⟩

end Sys2Proof.Machine

/-! PROOFS. The commands of the Illumination Unit, and RESEED, ACK RESET, ZERO ODOMETER and CLEAR FAULTS:
what each makes of its block, with its REPLY last. -/

namespace Sys2Proof

theorem Eight.toList_eq_map_get {α : Type} (v : Eight α) :
    v.toList = (List.finRange 8).map v.get :=
  rfl

namespace Machine

/-! ## Commands that change the lamps (R113, R117) -/

/-- What a command that changed the lamps to `x` and latched `ks` leaves of `s`, answered by `a`. -/
structure State.LampsAnswered (s t : State) (x : IlluminationUnit) (ks : List EventKind)
    (tag number : Byte) (a : Answer) : Prop where
  frame : t = { s with lamps := x, link := t.link }
  kept : s.link.KeptBy t.link
  replied : t.Replied tag number a
  reported : ∀ k ∈ ks, t.Reported k
  latches : ks = [] → t.link.latches = s.link.latches

/-- A consumed command that sets the lamps, latches events and is answered (R167, R172). -/
theorem consume_of_setLamps {tag number : Byte} {owner : State → Answer × State} {s : State}
    {a : Answer} {x : IlluminationUnit} {ks : List EventKind} (h : s.PlaceFree)
    (ho : owner s.holdReplyPlace = (a, (s.holdReplyPlace.setLamps x).latch ks)) :
    s.LampsAnswered (consume tag number owner s) x ks tag number a := by
  rw [consume_of_placeFree h, ho]
  refine ⟨?_, ?_, State.placeReply_replied .., fun k hk => ?_, ?_⟩
  · rw [State.latch_eq_setLink]
    rfl
  · have hlatched := (s.holdReplyPlace.setLamps x).latch_kept ks
    exact .trans ⟨rfl, rfl, rfl, rfl, rfl, rfl, rfl, rfl, rfl⟩
      (hlatched.trans ⟨rfl, rfl, rfl, rfl, rfl, rfl, rfl, rfl, rfl⟩)
  · exact (State.latch_reported _ hk).placeReply ..
  · rintro rfl
    rw [State.latch_nil]
    rfl

/-! ## SET of LED CYCLE and of DUTY (R110, R113) -/

theorem segmentOf_of_eight_le {n : Byte} (h : 8 ≤ n.toNat) : segmentOf n = none :=
  dif_neg (Nat.not_lt.mpr h)

theorem segmentOf_of_eq {n : Byte} {i : Fin 8} (h : n.toNat = i.val) : segmentOf n = some i := by
  have hlt : n.toNat < 8 := h ▸ i.isLt
  rw [segmentOf, dif_pos hlt]
  exact congrArg some (Fin.ext h)

/-- The lamps with a duty staged over a segment's aborted tune (R113). -/
def IlluminationUnit.withDuty (u : IlluminationUnit) (i : Fin 8) (duty : Nat) : IlluminationUnit :=
  { u with segments := u.segments.set i { (u.segments.get i).abortTune with staged := duty } }

theorem ownSetDuty_of_segment {segment : Byte} {i : Fin 8} (h : segment.toNat = i.val) (value : Word)
    (s : State) : ownSetDuty segment value s =
      (setAnswer 14 segment value.toNat (min value.toNat (2 ^ s.lamps.cycle)),
        (s.setLamps (s.lamps.withDuty i (min value.toNat (2 ^ s.lamps.cycle)))).latch
          (eventIf (s.lamps.segments.get i).isTuning .tuneDone)) := by
  rw [ownSetDuty, segmentOf_of_eq h]
  rfl

/-- A duty set over a tune ends it ABORTED, whatever duty the abort brings back (R113, R123). -/
theorem SegmentDrive.abortTune_staged (d : SegmentDrive) (duty : Nat) :
    { d.abortTune with staged := duty } =
      if d.isTuning then { d with staged := duty, tune := .steady, verdict := .aborted }
      else { d with staged := duty } := by
  cases ht : d.tune with
  | tuning => rw [SegmentDrive.abortTune_of_tuning ht, isTuning, ht, if_pos rfl]
  | steady | holdoff =>
    have hidle : d.isTuning = false := by simp [isTuning, ht]
    simp [SegmentDrive.abortTune_of_not_isTuning hidle, hidle, ht]

/-- Settles O13: the pending cycle length is all that SET of LED CYCLE moves; SET of DUTY moves one
segment. -/
theorem setCycleWaitsAndDutyIsStaged : Obligations.SetCycleWaitsAndDutyIsStaged := by
  refine ⟨fun s tag v hplace => ?_, fun s tag segment v hplace => ⟨fun hbad => ?_, fun i hi => ?_⟩⟩
  · exact congrArg _ (consume_setNumber hplace rfl tag 13 fun u n =>
      u.setLamps { u.lamps with pendingCycle := some n })
  · refine congrArg _ (consume_of_unchanged hplace ?_)
    rw [ownSetDuty, segmentOf_of_eight_le hbad]
    rfl
  · intro d old
    obtain ⟨hframe, hkept, hreplied, hreported, hlatches⟩ :=
      consume_of_setLamps (tag := tag) (number := 2) hplace
        (ownSetDuty_of_segment hi v s.holdReplyPlace)
    refine ⟨_, rfl, ?_, ?_, fun j hj => ?_, ?_, (congrArg State.now hframe :),
      (congrArg State.params hframe :), (congrArg State.intake hframe :), (congrArg State.slots hframe :),
      (congrArg State.engine hframe :), (congrArg State.views hframe :), (congrArg State.position hframe :),
      (congrArg State.guard hframe :), hkept, hreplied, fun htuning => ?_, fun hidle => ?_⟩
    · rw [hframe]
      rfl
    · rw [hframe]
      rfl
    · rw [hframe]
      exact (Eight.get_set ..).trans (if_neg hj)
    · rw [hframe]
      exact (Eight.get_set_same ..).trans (old.abortTune_staged d)
    · exact hreported _ (mem_eventIf.mpr ⟨rfl, htuning⟩)
    · exact hlatches (congrArg (eventIf · _) hidle)

/-! ## TUNE (R116, R117) -/

theorem SegmentDrive.tuned_eq (d : SegmentDrive) (n : Nat) (o : TuneOutcome) :
    d.tuned n o = if tuneOutcomeCode o = 1 then d.startTune n
      else if tuneOutcomeCode o = 3 then { d with verdict := .fault } else d := by
  cases o <;> rfl

theorem tuneOutcomeCode_eq_one_iff (o : TuneOutcome) : tuneOutcomeCode o = 1 ↔ o = .started := by
  cases o <;> decide

theorem tuneOutcomeCode_eq_three_iff (o : TuneOutcome) : tuneOutcomeCode o = 3 ↔ o = .fault := by
  cases o <;> decide

theorem tuneOutcomeCode_tuneOutcome (thermal : Thermal) (masked disabled : Bool) (d : SegmentDrive) :
    tuneOutcomeCode (tuneOutcome thermal masked disabled d) =
      if masked then
        if thermal ≠ .normal then 4 else if disabled then 3 else if d.isTuning then 2 else 1
      else 0 := by
  simp only [tuneOutcome, apply_ite tuneOutcomeCode]
  rfl

/-- The lamps after TUNE gave each segment its outcome (R117). -/
def State.tunedLamps (s : State) (mask : Byte) : IlluminationUnit :=
  { s.lamps with
    segments := Eight.build fun i =>
      (s.lamps.segments.get i).tuned s.lamps.cycle ((s.tuneOutcomes mask).get i) }

/-- The events of a TUNE: a FAULT latches both of a tune's (R117). -/
def State.tuneEvents (s : State) (mask : Byte) : List EventKind :=
  if (s.tuneOutcomes mask).any (· = .fault) then [.tuneDone, .tuneError] else []

/-- The place held for the REPLY plays no part in TUNE. -/
theorem ownTune_holdReplyPlace (mask : Byte) (s : State) : ownTune mask s.holdReplyPlace =
    ({ code := s.tuneCode mask
       content := ((s.tuneOutcomes mask).map fun o => byteOf (tuneOutcomeCode o)).toList },
      (s.holdReplyPlace.setLamps (s.tunedLamps mask)).latch (s.tuneEvents mask)) :=
  rfl

/-- Settles O22: each segment follows its own outcome; FAULT alone latches events. -/
theorem tuneStartsAtHalfDuty : Obligations.TuneStartsAtHalfDuty := by
  intro s tag mask hplace outcome
  have hcode (i : Fin 8) : tuneOutcomeCode ((s.tuneOutcomes mask).get i) = outcome i := by
    rw [State.tuneOutcomes, Eight.get_build, tuneOutcomeCode_tuneOutcome]
    rfl
  have hstarted : (s.tuneOutcomes mask).any (· = .started) = true ↔ ∃ i, outcome i = 1 := by
    simp only [Eight.any_iff, decide_eq_true_iff, ← tuneOutcomeCode_eq_one_iff, hcode]
  have hfault : (s.tuneOutcomes mask).any (· = .fault) = true ↔ ∃ i, outcome i = 3 := by
    simp only [Eight.any_iff, decide_eq_true_iff, ← tuneOutcomeCode_eq_three_iff, hcode]
  have hreply : s.tuneCode mask = if s.guard.thermal ≠ .normal then .refused
      else if ∃ i, outcome i = 1 then .accepted else .done :=
    if_congr .rfl rfl (if_congr hstarted rfl rfl)
  have hcontent : ((s.tuneOutcomes mask).map fun o => byteOf (tuneOutcomeCode o)).toList
      = (List.finRange 8).map fun i => BitVec.ofNat 8 (outcome i) := by
    refine (Eight.toList_eq_map_get _).trans (List.map_congr_left fun i _ => ?_)
    rw [Eight.get_map, hcode]
    rfl
  obtain ⟨hframe, hkept, hreplied, hreported, hlatches⟩ :=
    consume_of_setLamps (tag := tag) (number := 12) hplace (ownTune_holdReplyPlace mask s)
  refine ⟨_, rfl, ?_, hkept, ?_, ?_, fun i => ?_, ?_, fun h => ?_, fun h => ?_⟩
  · rw [hframe]
  · rw [hframe]
    rfl
  · rw [hframe]
    rfl
  · rw [hframe]
    simp only [State.tunedLamps, Eight.get_build, SegmentDrive.tuned_eq, hcode]
    rfl
  · rwa [← hreply, ← hcontent]
  · have hevents : s.tuneEvents mask = [.tuneDone, .tuneError] := if_pos (hfault.mpr h)
    rw [hevents] at hreported
    exact ⟨hreported _ (by decide), hreported _ (by decide)⟩
  · exact hlatches (if_neg (mt hfault.mp (not_exists.mpr h)))

/-! ## RESEED, ACK RESET, ZERO ODOMETER and CLEAR FAULTS (R87, R127, R140, R175) -/

/-- P at a rest position of 0 stands short of WAKE DISTANCE, so ZERO ODOMETER wakes nothing (R87, R94). -/
theorem ownZeroOdometer_eq {s : State} (h : 1 ≤ s.params.wakeDistance) :
    ownZeroOdometer s = (.bare .done, s.setPosition { s.position with
      p := 0, l := 0, windowStartValue := 0
      restPosition := if s.position.restPosition = none then none else some 0 }) := by
  have hrest : (s.position.restPosition.map fun _ => (0 : Int))
      = if s.position.restPosition = none then none else some 0 := by
    cases s.position.restPosition with
    | none => rfl
    | some r => rfl
  rw [ownZeroOdometer, hrest, State.wakeTest_of_near]
  intro r hr
  have hzero : r = 0 := by
    simp only [State.setPosition_position] at hr
    split at hr
    · cases hr
    · exact (Option.some.inj hr).symm
  subst hzero
  exact h

/-- With no segment faulted the ALERT line goes by the thermal state and its latches, which CLEAR FAULTS
keeps outside NORMAL (R139, R140). -/
theorem LampProtection.alertLevel_faultsCleared (g : LampProtection) (params : Parameters) :
    alertLevel params g.faultsCleared = decide (g.thermal ≠ .normal
      ∧ (g.thermal = .shutdown ∨ g.shut = true
        ∨ (g.warn = true ∧ params.thermalReport = .alert))) := by
  have hfaulted (i : Fin 8) : (g.faultsCleared.segments.get i).faulted = false := by
    rw [faultsCleared, Eight.get_map]
    rfl
  rw [Bool.eq_iff_iff, alertLevel_iff, decide_eq_true_iff]
  simp only [hfaulted, Bool.false_eq_true, exists_false, false_and, or_false]
  cases hthermal : g.thermal <;> simp [faultsCleared, hthermal]

theorem LampProtection.judged_faultsCleared (g : LampProtection) (params : Parameters) :
    g.faultsCleared.judged params = { g with
      segments := g.segments.map fun x => { x with
        openLatch := false, shortLatch := false, overLatch := false, disabled := false
        openCount := 0 }
      warn := if g.thermal = .normal then false else g.warn
      shut := if g.thermal = .normal then false else g.shut
      alert := decide (g.thermal ≠ .normal
        ∧ (g.thermal = .shutdown ∨ g.shut = true
          ∨ (g.warn = true ∧ params.thermalReport = .alert))) } := by
  have hcleared (latch : Bool) : (latch && decide (g.thermal ≠ .normal))
      = if g.thermal = .normal then false else latch := by
    by_cases hnormal : g.thermal = .normal <;> simp [hnormal]
  rw [judged, g.alertLevel_faultsCleared, faultsCleared, hcleared, hcleared]
  rfl

/-- Settles O23: each command sets one block, and its REPLY is placed over the state it leaves. -/
theorem simpleCommandsHaveOneEffect : Obligations.SimpleCommandsHaveOneEffect := by
  intro s tag mask hplace
  refine ⟨congrArg _ (consume_of_placeFree hplace), congrArg _ (consume_of_placeFree hplace),
    fun hwake => congrArg Host.Outcome.next ?_, congrArg Host.Outcome.next ?_⟩
  · rw [consume_of_placeFree hplace, ownZeroOdometer_eq (s := s.holdReplyPlace) hwake]
    rfl
  · rw [consume_of_placeFree hplace, ownClearFaults, LampProtection.judged_faultsCleared]
    rfl

end Machine

end Sys2Proof

/-! PROOFS. A thermal sample: the temperature held, the row of TABLE 7-4 taken, and what a change of the
thermal state does to the lamps, the window in progress and the ALERT line. -/

namespace Sys2Proof.Machine

/-! ## The record of the exposure in progress (R138) -/

section
variable {s : State} {e : CurrentExposure} (f : FrameRecord → FrameRecord)

theorem State.markExposure_of_closed (h : s.position.openWindow = none) : s.markExposure f = s := by
  simp only [markExposure, h]

theorem State.markExposure_of_outstanding (h : s.position.openWindow = some e) {r : FrameRecord}
    (hr : s.position.outstanding = some r) :
    s.markExposure f = s.setPosition { s.position with outstanding := some (f r) } := by
  simp only [markExposure, h, hr]

theorem State.markExposure_of_slot (h : s.position.openWindow = some e)
    (hr : s.position.outstanding = none) {k : SlotId} (hk : e.slot = some k) :
    s.markExposure f = s.setSlots (s.slots.set k ((s.slots.get k).mapRecord f)) := by
  simp only [markExposure, h, hr, hk]

theorem State.markExposure_of_discarded (h : s.position.openWindow = some e)
    (hr : s.position.outstanding = none) (hk : e.slot = none) : s.markExposure f = s := by
  simp only [markExposure, h, hr, hk]

theorem State.markExposure_setGuard (s : State) (g : LampProtection) :
    (s.setGuard g).markExposure f = (s.markExposure f).setGuard g := by
  unfold State.markExposure
  simp only [State.setGuard_position, State.setGuard_slots]
  split
  · rfl
  · split <;> rfl

end

theorem SlotPool.set_get (p : SlotPool) (k : SlotId) : p.set k (p.get k) = p := by
  cases k <;> rfl

theorem Slot.mapRecord_of_none {x : Slot} (h : x.record = none) (f : FrameRecord → FrameRecord) :
    x.mapRecord f = x := by
  cases x
  cases h
  rfl

theorem Slot.mapRecord_of_some {x : Slot} {r : FrameRecord} (h : x.record = some r)
    (f : FrameRecord → FrameRecord) : x.mapRecord f = { x with record := some (f r) } := by
  simp only [mapRecord, h, Option.map_some]

/-! ## A change of thermal state (R137, R138, R139) -/

/-- The mark of SHUTDOWN in a frame record (TABLE 4-2). -/
def FrameRecord.shutDown (r : FrameRecord) : FrameRecord :=
  { r with shutdown := true }

theorem State.cutWindow_eq (s : State) : s.cutWindow =
    (s.markExposure FrameRecord.shutDown).setGuard
      (if s.position.openWindow = none then s.guard else s.guard.blackout) := by
  unfold State.cutWindow
  split
  · rename_i hclosed
    rw [State.markExposure_of_closed _ hclosed, if_pos hclosed]
    rfl
  · rename_i hopen
    rw [State.markExposure_setGuard, if_neg (by simp [hopen])]
    rfl

/-- Lamp Protection in a thermal state with the latch of that state set (R137). -/
def LampProtection.entered (g : LampProtection) (thermal : Thermal) : LampProtection :=
  { g with
    thermal
    warn := g.warn || decide (thermal = .derate)
    shut := g.shut || decide (thermal = .shutdown) }

/-- The exposure in progress as a thermal state is entered: its record flagged in SHUTDOWN (R138). -/
def State.flagged (s : State) (thermal : Thermal) : State :=
  if thermal = .shutdown then s.markExposure FrameRecord.shutDown else s

/-- Lamp Protection as a thermal state is entered, the ALERT line aside: SHUTDOWN darkens an open window
(R137, R138). -/
def State.enteredGuard (s : State) (thermal : Thermal) : LampProtection :=
  if thermal = .shutdown ∧ s.position.openWindow ≠ none then (s.guard.entered thermal).blackout
  else s.guard.entered thermal

/-- The events of a change of thermal state (R123, R137). -/
def State.thermalEvents (s : State) (thermal : Thermal) : List EventKind :=
  .thermal :: eventIf (decide (thermal ≠ .normal) && s.lamps.anyTuning) .tuneDone

/-- The state as a thermal state is entered, the lamps and the ALERT line still to follow. -/
def State.thermalCut (s : State) (thermal : Thermal) : State :=
  if thermal = .shutdown then (s.setGuard (s.guard.entered thermal)).cutWindow
  else s.setGuard (s.guard.entered thermal)

section
variable (s : State) (thermal : Thermal)

theorem State.flagged_frame : s.flagged thermal =
    { s with position := (s.flagged thermal).position, slots := (s.flagged thermal).slots } := by
  unfold State.flagged
  split
  · rcases s.markExposure_cases FrameRecord.shutDown with h | ⟨_, _, h⟩ | ⟨_, h⟩ <;> rw [h] <;> rfl
  · rfl

theorem State.thermalCut_eq :
    s.thermalCut thermal = (s.flagged thermal).setGuard (s.enteredGuard thermal) := by
  unfold State.thermalCut State.flagged
  by_cases hshut : thermal = .shutdown
  · rw [if_pos hshut, if_pos hshut, State.cutWindow_eq, State.markExposure_setGuard]
    by_cases hclosed : s.position.openWindow = none
    · have hentered : s.enteredGuard thermal = s.guard.entered thermal :=
        if_neg fun hopen => hopen.2 hclosed
      rw [hentered]
      exact congrArg _ (if_pos hclosed)
    · have hdark : s.enteredGuard thermal = (s.guard.entered thermal).blackout :=
        if_pos ⟨hshut, hclosed⟩
      rw [hdark]
      exact congrArg _ (if_neg hclosed)
  · have hentered : s.enteredGuard thermal = s.guard.entered thermal :=
      if_neg fun hopen => hshut hopen.1
    rw [if_neg hshut, if_neg hshut, hentered]

theorem State.enteredGuard_eq : s.enteredGuard thermal = { s.guard with
    thermal
    warn := s.guard.warn || decide (thermal = .derate)
    shut := s.guard.shut || decide (thermal = .shutdown)
    segments := if thermal = .shutdown ∧ s.position.openWindow ≠ none then
        s.guard.segments.map fun x => { x with turnedOff := true }
      else s.guard.segments } := by
  unfold State.enteredGuard
  split
  · rfl
  · rfl

/-- What a change of thermal state does, block by block (R123, R137, R138, R139). -/
theorem State.enterThermal_eq : s.enterThermal thermal =
    State.latch { s with
      position := (s.flagged thermal).position
      slots := (s.flagged thermal).slots
      lamps := if thermal = .normal then s.lamps else s.lamps.abortTunes
      guard := (s.enteredGuard thermal).judged s.params } (s.thermalEvents thermal) := by
  have hcut : s.thermalCut thermal = { s with
      position := (s.flagged thermal).position, slots := (s.flagged thermal).slots
      guard := s.enteredGuard thermal } := by
    rw [s.thermalCut_eq, s.flagged_frame]
    rfl
  have henter : s.enterThermal thermal =
    (let u := if thermal = .normal then s.thermalCut thermal
      else (s.thermalCut thermal).setLamps (s.thermalCut thermal).lamps.abortTunes
    (u.setGuard (u.guard.judged u.params)).latch (s.thermalEvents thermal)) := rfl
  rw [henter, hcut]
  by_cases hnormal : thermal = .normal
  · simp only [if_pos hnormal]
    rfl
  · simp only [if_neg hnormal]
    rfl

end

/-! ## A sample (R136, R137) -/

/-- The state with a sample held: the clock at its moment, sense progress run on (R130, R136). -/
def State.heldSample (s : State) (temperature : Int) : State :=
  let due := s.guard.lastSample + 480000
  let now := max s.now due
  { s with
    now
    guard := { s.guard.progressed now s.position s.lamps with
      temperature := max (-40) (min 150 temperature), lastSample := due } }

section
variable (s : State) (temperature : Int)

theorem State.heldSample_thermal : (s.heldSample temperature).guard.thermal = s.guard.thermal := by
  rw [State.heldSample, LampProtection.progressed_eq]

theorem State.heldSample_warn : (s.heldSample temperature).guard.warn = s.guard.warn := by
  rw [State.heldSample, LampProtection.progressed_eq]

theorem State.heldSample_shut : (s.heldSample temperature).guard.shut = s.guard.shut := by
  rw [State.heldSample, LampProtection.progressed_eq]

/-- A sample holds the temperature and enters the state that TABLE 7-4 gives, when that is another. -/
theorem exec_thermalSample :
    exec (.thermalSample temperature) s =
      .next (if thermalNext s.guard.thermal (max (-40) (min 150 temperature)) = s.guard.thermal then
          s.heldSample temperature
        else (s.heldSample temperature).enterThermal
          (thermalNext s.guard.thermal (max (-40) (min 150 temperature)))) := by
  rw [← s.heldSample_thermal temperature]
  rfl

end

/-- Settles O52: the row of TABLE 7-4 taken decides; a change of state is entered as `enterThermal` says. -/
theorem thermalSamplesAreJudged : Obligations.ThermalSamplesAreJudged := by
  intro s temperature c due now before after g
  have hexec : exec (.thermalSample temperature) s = .next (if after = before
      then s.heldSample temperature else (s.heldSample temperature).enterThermal after) :=
    exec_thermalSample s temperature
  refine ⟨fun hsame => hexec.trans (congrArg _ (if_pos hsame)), fun hchanged => ?_⟩
  rw [if_neg hchanged] at hexec
  set held := s.heldSample temperature
  have henter := held.enterThermal_eq after
  refine ⟨_, hexec, ?frame, ?kept, ?thermal, fun hbelow htuning => ?tune, ?guard,
    fun e hshut hexposing hcurrent => ?record, fun hkeeps => ?stays⟩
  all_goals rw [henter]
  case frame =>
    rw [State.latch_eq_setLink]
    rfl
  case kept => exact State.latch_kept _ _
  case thermal => exact State.latch_reported _ (List.mem_cons_self ..)
  case tune =>
    refine State.latch_reported _ (List.mem_cons_of_mem _ (mem_eventIf.mpr ⟨rfl, ?_⟩))
    rw [decide_eq_true hbelow]
    exact htuning
  case guard =>
    rw [State.latch_guard, held.enteredGuard_eq, s.heldSample_warn, s.heldSample_shut]
    rfl
  case record =>
    have hopen : held.position.openWindow = some e := (if_pos hexposing).trans hcurrent
    have hflagged : held.flagged after = held.markExposure FrameRecord.shutDown := if_pos hshut
    rw [State.latch_position, State.latch_slots, hflagged]
    refine ⟨fun r hr => ?_, fun hr => ?_⟩
    · rw [State.markExposure_of_outstanding _ hopen hr]
      exact ⟨rfl, rfl⟩
    · cases hk : e.slot with
      | none =>
        rw [State.markExposure_of_discarded _ hopen hr hk]
        exact ⟨rfl, fun _ _ h => (by cases h), fun _ => rfl⟩
      | some k =>
        rw [State.markExposure_of_slot _ hopen hr hk]
        refine ⟨rfl, fun k' r hk' hrecord => ?_, fun hnone => ?_⟩
        · cases hk'
          exact congrArg (s.slots.set k) (Slot.mapRecord_of_some hrecord _)
        · exact (congrArg (s.slots.set k) (Slot.mapRecord_of_none (hnone k rfl) _)).trans
            (s.slots.set_get k)
  case stays =>
    have hflagged : held.flagged after = held := by
      unfold State.flagged
      split
      case isTrue hshut => exact State.markExposure_of_closed _ (hkeeps.resolve_left (· hshut))
      case isFalse => rfl
    rw [State.latch_position, State.latch_slots, hflagged]
    exact ⟨rfl, rfl⟩

end Sys2Proof.Machine

/-! PROOFS. The probe: started, left waiting or BUSY, and its strings judged 2 ms after its start. -/

namespace Sys2Proof.Machine

/-! ## PROBE (R141) -/

section
variable {s : State}

theorem ownProbe_of_busy (h : s.guard.probe ≠ .idle) : ownProbe s = (.bare .busy, s) := by
  unfold ownProbe
  split
  · rfl
  · rfl
  · rename_i hidle
    exact absurd hidle h

theorem ownProbe_of_exposing (hidle : s.guard.probe = .idle)
    (hexposing : s.position.sequencer = .exposing) :
    ownProbe s = (.bare .accepted, s.setGuard { s.guard with probe := .waiting }) := by
  simp only [ownProbe, hidle, hexposing, if_true]

theorem ownProbe_of_not_exposing (hidle : s.guard.probe = .idle)
    (hclosed : s.position.sequencer ≠ .exposing) :
    ownProbe s = (.bare .accepted, s.startProbe) := by
  simp only [ownProbe, hidle, if_neg hclosed]

/-! ## PROBE COMPLETION (R142) -/

/-- Outside an exposure no sense progress runs, so a completion moves the clock and ends the probe. -/
theorem exec_probeCompletion_of_probing (h : s.guard.probe = .probing)
    (hclosed : s.position.sequencer ≠ .exposing) (strings : Eight StringReading) :
    exec (.probeCompletion strings) s =
      .next (((s.setNow (max s.now (s.guard.probeStart + 96000))).setGuard
        { s.guard with probe := .idle, results := strings.map probeFinding }).latch [.probeDone]) := by
  have hwindow := PositionUnit.openWindow_of_not_exposing hclosed
  simp only [exec, execProbeCompletion, if_pos h, s.advanceTo_of_closed _ hwindow]
  rfl

end

/-- Settles O24: the state of the probe and of the sequencer decide the answer; a completion latches
PROBE DONE over the results it found. -/
theorem probeStartsAndCompletes : Obligations.ProbeStartsAndCompletes := by
  refine ⟨fun s tag hplace => ⟨fun hbusy => ?busy, fun hidle hexposing => ?waits,
    fun hidle hclosed => ?starts⟩, fun s strings hprobing hclosed => ?completes⟩
  case busy => exact congrArg _ (consume_of_unchanged hplace (ownProbe_of_busy hbusy))
  case waits =>
    refine congrArg Host.Outcome.next ((consume_of_placeFree hplace).trans ?_)
    rw [ownProbe_of_exposing (s := s.holdReplyPlace) hidle hexposing]
    rfl
  case starts =>
    refine congrArg Host.Outcome.next ((consume_of_placeFree hplace).trans ?_)
    rw [ownProbe_of_not_exposing (s := s.holdReplyPlace) hidle hclosed]
    rfl
  case completes =>
    refine ⟨_, exec_probeCompletion_of_probing hprobing hclosed strings, ?_, State.latch_kept _ _,
      State.latch_now _ _, ?_, fun i => ?_, State.latch_reported _ (List.mem_singleton_self _)⟩
    · rw [State.latch_eq_setLink]
      rfl
    · rw [State.latch_guard]
      rfl
    · rw [State.latch_guard]
      exact Eight.get_map ..

end Sys2Proof.Machine

/-! PROOFS. Sensing and over-current: the step that closes the sense window, the tests at its close, and
what a detection does to the record in progress, the segment's tune and the ALERT line. -/

namespace Sys2Proof.Machine

/-! ## The sense window (R109, R130) -/

/-- On-steps counted by cycles passed and steps into the next one; a whole cycle counts as either. -/
theorem onSteps_of_cycles {n d r : Nat} (hd : d ≤ 2 ^ n) (hr : r ≤ 2 ^ n) (q : Nat) :
    onSteps n d (q * 2 ^ n + r) = q * d + min r d := by
  have hcycle : 0 < 2 ^ n := Nat.two_pow_pos n
  rcases hr.lt_or_eq with hlt | rfl
  · rw [onSteps, Nat.mul_comm q, Nat.mul_add_div hcycle, Nat.mul_add_mod, Nat.div_eq_of_lt hlt,
      Nat.mod_eq_of_lt hlt, Nat.add_zero]
  · rw [onSteps, ← Nat.succ_mul, Nat.mul_div_cancel _ hcycle, Nat.mul_mod_left, Nat.zero_min,
      Nat.min_eq_right hd, Nat.succ_mul, Nat.add_zero]

section
variable {n d : Nat} (hd : 1 ≤ d) (hcycle : d ≤ 2 ^ n)
include hd hcycle

theorem onSteps_senseCloseStep : onSteps n d (senseCloseStep n d) = 960 := by
  have hlast : 959 % d + 1 ≤ d := Nat.mod_lt 959 hd
  calc onSteps n d (senseCloseStep n d)
      = 959 / d * d + min (959 % d + 1) d := onSteps_of_cycles hcycle (hlast.trans hcycle) _
    _ = 959 / d * d + 959 % d + 1 := by rw [Nat.min_eq_left hlast, Nat.add_assoc]
    _ = 960 := by rw [Nat.div_add_mod']

theorem onSteps_before_senseCloseStep : onSteps n d (senseCloseStep n d - 1) = 959 := by
  have hlast : 959 % d ≤ d := (Nat.mod_lt 959 hd).le
  calc onSteps n d (senseCloseStep n d - 1)
      = 959 / d * d + min (959 % d) d := onSteps_of_cycles hcycle (hlast.trans hcycle) _
    _ = 959 := by rw [Nat.min_eq_left hlast, Nat.div_add_mod']

end

section
variable {s : State} {e : CurrentExposure} {i : Fin 8}

theorem PositionUnit.openWindow_of_exposing {u : PositionUnit} (h : u.sequencer = .exposing)
    (hcurrent : u.current = some e) : u.openWindow = some e :=
  (if_pos h).trans hcurrent

theorem PositionUnit.openWindow_eq_none {u : PositionUnit}
    (h : u.sequencer ≠ .exposing ∨ u.current = none) : u.openWindow = none := by
  unfold openWindow
  split
  case isTrue hexposing => exact h.resolve_left (not_not_intro hexposing)
  case isFalse => rfl

theorem CurrentExposure.windowSteps_eq (e : CurrentExposure) : e.windowSteps = 48 * e.eEff :=
  Nat.mul_comm ..

/-- A driven segment whose window is long enough and not yet closed is sensed (R130). -/
theorem State.sensedWindow_of_driven (hopen : s.position.openWindow = some e)
    (hduty : 0 < (s.lamps.segments.get i).applied)
    (hlit : (s.guard.segments.get i).turnedOff = false)
    (hprogress : (s.guard.segments.get i).progress < 960)
    (hlong : 960 ≤ onSteps s.lamps.cycle (s.lamps.segments.get i).applied (48 * e.eEff)) :
    s.sensedWindow i = some e := by
  have hdriven : s.drivenInWindow i = true := by
    simp [drivenInWindow, hopen, hduty, hlit]
  simp only [sensedWindow, hopen]
  exact if_pos ⟨hdriven, hprogress, e.windowSteps_eq ▸ hlong⟩

theorem State.segmentLit_iff (hopen : s.position.openWindow = some e) :
    s.segmentLit i = true ↔ s.now - e.start < 48 * e.eEff
      ∧ (s.now - e.start) % 2 ^ s.lamps.cycle < (s.lamps.segments.get i).applied
      ∧ (s.guard.segments.get i).turnedOff = false := by
  simp only [segmentLit, hopen, e.windowSteps_eq, Bool.and_eq_true, decide_eq_true_iff,
    Bool.not_eq_true']
  tauto

end

/-- The comparison is made at on-steps alone, and only a current over the limit is a detection (R133). -/
theorem exec_overcurrent (s : State) (i : Fin 8) (current : Nat) :
    exec (.overcurrent i current) s =
      .next (if s.segmentLit i = true ∧ 1500000 < current then
          (s.setGuard { s.guard with
            segments := s.guard.segments.set i (s.guard.segments.get i).overcurrent }).detect i
        else s) :=
  rfl

/-! ## The tests at the close of the sense window (R131, R132, R135) -/

section
variable (x : SegmentGuard) (peak voltage : Nat)

theorem SegmentGuard.findsOpen_eq : x.findsOpen peak = decide (peak < 5000 ∧ x.openCount = 1) :=
  (Bool.decide_and ..).symm

theorem SegmentGuard.findsOpen_or_findsShort_iff : (x.findsOpen peak || findsShort voltage) = true ↔
    (peak < 5000 ∧ x.openCount = 1) ∨ voltage < 2000 := by
  rw [x.findsOpen_eq, Bool.or_eq_true, decide_eq_true_iff]
  exact or_congr_right decide_eq_true_iff

theorem SegmentGuard.tested_eq (response : FaultResponse) : x.tested response peak voltage =
    { x with
      progress := 960, openCount := if peak < 5000 ∧ x.openCount = 0 then 1 else 0
      openLatch := x.openLatch || decide (peak < 5000 ∧ x.openCount = 1)
      shortLatch := x.shortLatch || decide (voltage < 2000)
      disabled := x.disabled
        || decide (((peak < 5000 ∧ x.openCount = 1) ∨ voltage < 2000) ∧ response = .off) } := by
  have hdisables : ((x.findsOpen peak || findsShort voltage) && decide (response = .off))
      = decide (((peak < 5000 ∧ x.openCount = 1) ∨ voltage < 2000) ∧ response = .off) := by
    rw [Bool.eq_iff_iff, Bool.and_eq_true, x.findsOpen_or_findsShort_iff, decide_eq_true_iff,
      decide_eq_true_iff]
  rw [tested, hdisables, x.findsOpen_eq]
  rfl

/-- Of a segment's record passing time changes the sense progress alone (R130). -/
theorem LampProtection.get_progressed (g : LampProtection) (now : Nat) (u : PositionUnit)
    (lamps : IlluminationUnit) (i : Fin 8) :
    ∃ progress, (g.progressed now u lamps).segments.get i = { g.segments.get i with progress } := by
  unfold progressed
  split
  · exact ⟨_, rfl⟩
  · rw [Eight.get_build]
    exact ⟨_, progressAt_eq ..⟩

/-- The tests set the sense progress themselves, so the run of it up to the close plays no part. -/
theorem State.closeSense_eq {s : State} {i : Fin 8} {progress : Nat}
    (h : s.guard.segments.get i = { x with progress }) :
    s.closeSense i peak voltage =
      let t := s.setGuard { s.guard with
        segments := s.guard.segments.set i (x.tested s.params.ledFaultResponse peak voltage) }
      if (peak < 5000 ∧ x.openCount = 1) ∨ voltage < 2000 then t.detect i else t := by
  rw [closeSense, h]
  exact if_congr (x.findsOpen_or_findsShort_iff peak voltage) rfl rfl

end

theorem exec_senseWindowClose {s : State} {e : CurrentExposure} {i : Fin 8}
    (h : s.sensedWindow i = some e) (peak voltage : Nat) :
    exec (.senseWindowClose i peak voltage) s = .next ((s.advanceTo
      (e.start + senseCloseStep s.lamps.cycle (s.lamps.segments.get i).applied)).closeSense
        i peak voltage) := by
  simp only [exec, execSenseWindowClose, h]

/-! ## The record of the exposure in progress (R134) -/

theorem State.markExposure_frame (s : State) (f : FrameRecord → FrameRecord) : s.markExposure f =
    { s with position := (s.markExposure f).position, slots := (s.markExposure f).slots } := by
  rcases s.markExposure_cases f with h | ⟨_, _, h⟩ | ⟨_, h⟩ <;> rw [h] <;> rfl

/-- The record of the exposure in progress is changed where it stands: outstanding, in the slot that
claimed it, or nowhere once discarded. -/
theorem State.markExposure_record {s : State} {e : CurrentExposure}
    (hopen : s.position.openWindow = some e) (f : FrameRecord → FrameRecord) :
    (∀ r, s.position.outstanding = some r → (s.markExposure f).slots = s.slots
        ∧ (s.markExposure f).position = { s.position with outstanding := some (f r) })
      ∧ (s.position.outstanding = none → (s.markExposure f).position = s.position
        ∧ (∀ k r, e.slot = some k → (s.slots.get k).record = some r →
          (s.markExposure f).slots
            = s.slots.set k { s.slots.get k with record := some (f r) })
        ∧ ((∀ k, e.slot = some k → (s.slots.get k).record = none) →
          (s.markExposure f).slots = s.slots)) := by
  refine ⟨fun r hr => ?_, fun hr => ?_⟩
  · rw [State.markExposure_of_outstanding _ hopen hr]
    exact ⟨rfl, rfl⟩
  · cases hk : e.slot with
    | none =>
      rw [State.markExposure_of_discarded _ hopen hr hk]
      exact ⟨rfl, fun _ _ h => (by cases h), fun _ => rfl⟩
    | some k =>
      rw [State.markExposure_of_slot _ hopen hr hk]
      refine ⟨rfl, fun k' r hk' hrecord => ?_, fun hnone => ?_⟩
      · cases hk'
        exact congrArg (s.slots.set k) (Slot.mapRecord_of_some hrecord _)
      · exact (congrArg (s.slots.set k) (Slot.mapRecord_of_none (hnone k rfl) _)).trans
          (s.slots.set_get k)

/-! ## Detections (R124, R134, R135) -/

theorem SegmentDrive.faultTune_of_tuning {d : SegmentDrive} {trial duty preTune : Nat}
    {first : Option (BitVec 16)} (h : d.tune = .tuning trial duty first preTune) (holdoff : Nat) :
    d.faultTune holdoff
      = { d with staged := preTune, tune := holdoffFor holdoff, verdict := .fault } := by
  simp only [faultTune, h]

theorem SegmentDrive.faultTune_of_not_isTuning {d : SegmentDrive} (h : d.isTuning = false)
    (holdoff : Nat) : d.faultTune holdoff = d := by
  cases ht : d.tune with
  | tuning => rw [isTuning, ht] at h; cases h
  | steady | holdoff => simp only [faultTune, ht]

theorem SegmentDrive.isTuning_of_tuning {d : SegmentDrive} {trial duty preTune : Nat}
    {first : Option (BitVec 16)} (h : d.tune = .tuning trial duty first preTune) :
    d.isTuning = true := by
  simp only [isTuning, h]

/-- The mark of a detection in a frame record (TABLE 4-2). -/
def FrameRecord.ledFaulted (r : FrameRecord) : FrameRecord :=
  { r with ledFault := true }

/-- The lamps with the tune of a segment ended by a fault (R124). -/
def IlluminationUnit.faulted (u : IlluminationUnit) (i : Fin 8) (holdoff : Nat) : IlluminationUnit :=
  { u with segments := u.segments.set i ((u.segments.get i).faultTune holdoff) }

/-- The events of a detection on a segment (R124, R134). -/
def State.detectionEvents (s : State) (i : Fin 8) : List EventKind :=
  .ledFault :: if (s.lamps.segments.get i).isTuning then [.tuneDone, .tuneError] else []

theorem State.tuneEvents_mem_detectionEvents {s : State} {i : Fin 8}
    (h : (s.lamps.segments.get i).isTuning = true) :
    .tuneDone ∈ s.detectionEvents i ∧ .tuneError ∈ s.detectionEvents i := by
  rw [detectionEvents, if_pos h]
  decide

/-- What a detection does, block by block (R134). -/
theorem State.detect_eq (s : State) (i : Fin 8) : s.detect i =
    State.latch { s with
      position := (s.markExposure FrameRecord.ledFaulted).position
      slots := (s.markExposure FrameRecord.ledFaulted).slots
      lamps := s.lamps.faulted i s.params.tuneHoldoff
      guard := s.guard.judged s.params } (s.detectionEvents i) := by
  have hdetect : s.detect i =
    (let t := s.markExposure FrameRecord.ledFaulted
    ((t.setLamps (t.lamps.faulted i t.params.tuneHoldoff)).setGuard
      (t.guard.judged t.params)).latch (t.detectionEvents i)) := rfl
  rw [hdetect, s.markExposure_frame]
  rfl

/-- Settles O51: the close of the window is a count of on-steps; each detection is `detect`, taken block
by block. -/
theorem sensingFindsFaults : Obligations.SensingFindsFaults := by
  refine ⟨fun n d hd hcycle => ?window, ?close, ?overcurrent, fun s i => ?detection⟩
  case window =>
    exact ⟨onSteps_senseCloseStep hd hcycle, onSteps_before_senseCloseStep hd hcycle⟩
  case close =>
    intro s e i peak voltage hexposing hcurrent d x hduty hlit hprogress hlong now opened
      found tested g t
    have hopen := PositionUnit.openWindow_of_exposing hexposing hcurrent
    have hsensed := State.sensedWindow_of_driven hopen hduty hlit hprogress hlong
    obtain ⟨_, hrun⟩ := s.guard.get_progressed now s.position s.lamps i
    rw [exec_senseWindowClose hsensed, State.closeSense_eq x peak voltage hrun,
      SegmentGuard.tested_eq]
    rfl
  case overcurrent =>
    intro s e i current hexposing hcurrent elapsed onStep
    have hlit : s.segmentLit i = true ↔ onStep :=
      State.segmentLit_iff (PositionUnit.openWindow_of_exposing hexposing hcurrent)
    rw [exec_overcurrent]
    refine ⟨fun hnone => congrArg _ (if_neg fun ⟨hon, habove⟩ => ?_),
      fun hon habove => congrArg _ (if_pos ⟨hlit.mpr hon, habove⟩)⟩
    exact hnone.elim (· (hlit.mp hon)) (Nat.not_le.mpr habove)
  case detection =>
    intro t rest
    have hdetect : t = _ := s.detect_eq i
    refine ⟨?frame, ?kept, ?reported, fun j hj => ?others, ?cycle, ?pendingCycle,
      fun hidle => ?untuned, fun _ _ _ _ htune => ?tuned, fun e hexposing hcurrent => ?record,
      fun hclosed => ?stays⟩
    all_goals rw [hdetect]
    case frame =>
      rw [State.latch_eq_setLink]
      rfl
    case kept => exact State.latch_kept _ _
    case reported => exact State.latch_reported _ (List.mem_cons_self ..)
    case others =>
      rw [State.latch_lamps]
      exact (Eight.get_set ..).trans (if_neg hj)
    case cycle | pendingCycle => rw [State.latch_lamps]; rfl
    case untuned =>
      rw [State.latch_lamps]
      exact (Eight.get_set_same ..).trans (SegmentDrive.faultTune_of_not_isTuning hidle _)
    case tuned =>
      obtain ⟨hdone, herror⟩ :=
        State.tuneEvents_mem_detectionEvents (SegmentDrive.isTuning_of_tuning htune)
      refine ⟨?_, State.latch_reported _ hdone, State.latch_reported _ herror⟩
      rw [State.latch_lamps]
      exact (Eight.get_set_same ..).trans (SegmentDrive.faultTune_of_tuning htune _)
    case record =>
      rw [State.latch_position, State.latch_slots]
      exact State.markExposure_record (PositionUnit.openWindow_of_exposing hexposing hcurrent) _
    case stays =>
      rw [State.latch_position, State.latch_slots,
        State.markExposure_of_closed _ (PositionUnit.openWindow_eq_none hclosed)]
      exact ⟨rfl, rfl⟩

end Sys2Proof.Machine

/-! PROOFS. What keeps the four queues within their capacities: the places that are reserved or held are
counted as occupied by every operation. -/

namespace Sys2Proof.Machine

/-! ## The queues with places reserved and held (R151, R168) -/

/-- The four queues of a Link Unit within their capacities, with `reserved` places of the own video queue
reserved and a place of the management queue held for a REPLY or not. -/
def LinkUnit.Fits (l : LinkUnit) (reserved : Nat) (held : Bool) : Prop :=
  l.ownVideo.length + reserved ≤ 192 ∧ l.management.length + bit held ≤ 32
    ∧ l.upForward.length ≤ 128 ∧ l.downForward.length ≤ 16 ∧ l.replyPlace = held

/-- The queues fit while a command holds a place for its REPLY, or while none does. -/
def State.Queued (s : State) (held : Bool) : Prop :=
  s.link.Fits s.engine.reserved held

theorem State.queued_iff (s : State) : s.Queued false ↔ s.QueuesBounded := Iff.rfl

/-- A map that may fail keeps the length of the list it succeeds on. -/
theorem length_mapM_some {α β : Type} {f : α → Option β} {l : List α} {r : List β}
    (h : l.mapM f = some r) : r.length = l.length := by
  induction l generalizing r with
  | nil => simp_all
  | cons a l ih =>
    simp only [List.mapM_cons, Option.bind_eq_bind, Option.bind_eq_some_iff, Option.pure_def] at h
    obtain ⟨b, -, rest, hrest, hr⟩ := h
    cases hr
    simp [ih hrest]

/-- An output row holds Wo pixels (R28). -/
theorem State.length_outputRow {s : State} {r : Run} {y : Nat} {pixels : List OutputPixel}
    (h : s.outputRow r y = some pixels) : pixels.length = r.wo := by
  unfold State.outputRow at h
  split at h
  · cases h
  · simpa using length_mapM_some h

/-- A place of the management queue is free past the one held. -/
theorem LinkUnit.managementFree_iff (l : LinkUnit) :
    l.managementFree = true ↔ l.management.length + bit l.replyPlace < 32 :=
  decide_eq_true_iff

namespace LinkUnit.Fits
variable {l : LinkUnit} {reserved : Nat} {held : Bool} (h : l.Fits reserved held)
include h

/-- Only the queues and the place held matter. -/
theorem of_eq {m : LinkUnit} (hvideo : m.ownVideo = l.ownVideo)
    (hmanagement : m.management = l.management) (hup : m.upForward = l.upForward)
    (hdown : m.downForward = l.downForward) (hplace : m.replyPlace = l.replyPlace) :
    m.Fits reserved held := by
  rwa [Fits, hvideo, hmanagement, hup, hdown, hplace]

theorem judgeDownHold : l.judgeDownHold.Fits reserved held :=
  h.of_eq (by simp) (by simp) (by simp) (by simp) (by simp)

theorem judgeUpHold : l.judgeUpHold.Fits reserved held :=
  h.of_eq (by simp) (by simp) (by simp) (by simp) (by simp)

theorem setPort (p : PortId) (x : Port) : (l.setPort p x).Fits reserved held := by
  cases p <;> exact h

theorem placeManagement (hfree : l.managementFree = true) (c : Cell) :
    (l.placeManagement c).Fits reserved held := by
  obtain ⟨hvideo, -, hup, hdown, hplace⟩ := h
  have hroom := l.managementFree_iff.mp hfree
  rw [hplace] at hroom
  exact ⟨hvideo, by simp [LinkUnit.placeManagement]; omega, hup, hdown, hplace⟩

theorem forwardDown (c : Cell) : (l.forwardDown c).Fits reserved held := by
  unfold LinkUnit.forwardDown
  split
  · rename_i hroom
    have hless : l.downForward.length < 16 := hroom
    obtain ⟨hvideo, hmanagement, hup, -, hplace⟩ := h
    have hjoined : ({ l with downForward := l.downForward ++ [c] } : LinkUnit).Fits reserved held :=
      ⟨hvideo, hmanagement, hup, by simpa using hless, hplace⟩
    exact hjoined.judgeDownHold
  · exact h

theorem forwardUp (c : Cell) : (l.forwardUp c).Fits reserved held := by
  unfold LinkUnit.forwardUp
  split
  · rename_i hroom
    have hless : l.upForward.length < 128 := hroom
    obtain ⟨hvideo, hmanagement, -, hdown, hplace⟩ := h
    have hjoined : ({ l with upForward := l.upForward ++ [c] } : LinkUnit).Fits reserved held :=
      ⟨hvideo, hmanagement, by simpa using hless, hdown, hplace⟩
    exact hjoined.judgeUpHold
  · exact h

theorem flushCell (c : Cell) : (l.flushCell c).Fits reserved held := by
  unfold LinkUnit.flushCell
  split
  · split
    · exact h.placeManagement ‹_› _
    · exact h
  · exact h

theorem flushCells (cells : List Cell) : (cells.foldl LinkUnit.flushCell l).Fits reserved held := by
  induction cells generalizing l with
  | nil => exact h
  | cons c rest ih => exact ih (h.flushCell c)

theorem downEmptied : { l with downForward := [] }.Fits reserved held := by
  obtain ⟨hvideo, hmanagement, hup, -, hplace⟩ := h
  exact ⟨hvideo, hmanagement, hup, Nat.zero_le _, hplace⟩

theorem flushDown : l.flushDown.Fits reserved held := by
  have hflushed := h.downEmptied.flushCells l.downForward
  exact hflushed

theorem portLost (p : PortId) (midCell : Bool) : (l.portLost p midCell).Fits reserved held := by
  have hcut : ({ l.setPort p (l.port p).lost with
      counters := l.counters.cutShort p midCell } : LinkUnit).Fits reserved held := h.setPort p _
  cases p with
  | tether => exact hcut
  | chain => exact hcut.flushDown

end LinkUnit.Fits

namespace State.Queued
variable {s t : State} {held : Bool} (h : s.Queued held)
include h

/-- A change outside the Link Unit that leaves the reserved places. -/
theorem elsewhere (hlink : t.link = s.link := by rfl)
    (hreserved : t.engine.reserved = s.engine.reserved := by rfl) : t.Queued held := by
  rwa [State.Queued, hlink, hreserved]

theorem count (f : Counters → Counters) : (s.count f).Queued held := h

/-! ## STATUS cells and REPLY cells (R167, R168, R173) -/

/-- An occasion puts a STATUS cell into a free place or none (R168). -/
theorem statusOccasion : (s.setLink (Machine.statusOccasion s)).Queued held := by
  obtain ⟨-, -, -, hvideo, hup, hdown, -⟩ := statusOccasion_kept s
  obtain ⟨hv, hm, hu, hd, hplace⟩ := h
  refine ⟨hvideo ▸ hv, ?_, hup ▸ hu, hdown ▸ hd, (statusOccasion_replyPlace s).trans hplace⟩
  rcases statusOccasion_management s with hle | ⟨hfree, heq⟩
  · exact Nat.le_trans (Nat.add_le_add_right hle _) hm
  · have hroom := s.link.managementFree_iff.mp hfree
    rw [hplace] at hroom
    simp only [State.setLink_link, heq]
    omega

theorem latch (ks : List EventKind) : (s.latch ks).Queued held := by
  have hset : (s.setLatches ks).Queued held := h
  unfold State.latch
  split
  · exact hset.statusOccasion
  · exact hset

theorem markExposure (f : FrameRecord → FrameRecord) : (s.markExposure f).Queued held :=
  h.elsewhere (by simp) (by simp)

/-! ## Lamp Protection (Chapter 7) -/

theorem detect (i : Fin 8) : (s.detect i).Queued held :=
  (h.markExposure fun r => { r with ledFault := true }).elsewhere.latch _

theorem closeSense (i : Fin 8) (peakCurrent voltage : Nat) :
    (s.closeSense i peakCurrent voltage).Queued held := by
  simp only [State.closeSense]
  split
  · exact h.elsewhere.detect i
  · exact h

theorem cutWindow : s.cutWindow.Queued held := by
  unfold State.cutWindow
  split
  · exact h
  · exact h.elsewhere.markExposure _

theorem enterThermal (thermal : Thermal) : (s.enterThermal thermal).Queued held := by
  simp only [State.enterThermal]
  refine latch ?_ _
  split <;> split
  · exact h.elsewhere.cutWindow
  · exact h
  · exact h.elsewhere.cutWindow
  · exact h

theorem sampled (temperature : Int) : (s.sampled temperature).Queued held := by
  simp only [State.sampled]
  split
  · exact h
  · exact h.elsewhere.enterThermal _

theorem startWaitingProbe : s.startWaitingProbe.Queued held := by
  unfold State.startWaitingProbe
  split
  · exact h
  · exact h

/-! ## Triggers and exposures (Chapter 5) -/

theorem startExposure (cause : Cause) (tag : Int) : (s.startExposure cause tag).Queued held :=
  h.elsewhere.latch _

theorem raiseTrigger (cause : Cause) (tag : Int) : (s.raiseTrigger cause tag).Queued held := by
  unfold State.raiseTrigger
  split
  · exact h.startExposure _ _
  · unfold State.pendTrigger
    split
    · exact h
    · exact (h.elsewhere.count _).latch _

theorem takeUpNext : s.takeUpNext.Queued held := by
  unfold State.takeUpNext
  split
  · exact h.startExposure _ _
  · split
    · exact h
    · exact h.elsewhere.startExposure _ _

theorem becomeReady : s.becomeReady.Queued held :=
  h.elsewhere.takeUpNext

theorem takeUpArmed (armed : Bool) : (s.takeUpArmed armed).Queued held := by
  unfold State.takeUpArmed
  split
  · exact h.takeUpNext
  · exact h

theorem reportEnd (q : BitVec 16) : (s.reportEnd q).Queued held := by
  simp only [State.reportEnd]
  split
  · split
    · exact h.elsewhere.becomeReady
    · exact h
  · exact h

theorem raiseTime : s.raiseTime.Queued held :=
  h.elsewhere.raiseTrigger _ _

theorem raiseIfDue : s.raiseIfDue.Queued held := by
  unfold State.raiseIfDue
  split
  · exact h.raiseTime
  · exact h

theorem enterPark : s.enterPark.Queued held :=
  (h.elsewhere.latch _).raiseIfDue

theorem parkIfPassed : s.parkIfPassed.Queued held := by
  unfold State.parkIfPassed
  split
  · exact h.enterPark
  · exact h

theorem enterDwell : s.enterDwell.Queued held :=
  (h.elsewhere.latch _).raiseIfDue.parkIfPassed

theorem dwellIfPassed : s.dwellIfPassed.Queued held := by
  unfold State.dwellIfPassed
  split
  · exact h.enterDwell
  · exact h

theorem raiseDistance (target : Int) : (s.raiseDistance target).Queued held :=
  h.elsewhere.raiseTrigger _ _

theorem distanceTest : s.distanceTest.Queued held := by
  unfold State.distanceTest
  split
  · exact h.raiseDistance _
  · split
    · exact h.raiseDistance _
    · exact h

theorem creepTest : s.creepTest.Queued held := by
  unfold State.creepTest
  split
  · exact h.raiseDistance _
  · split
    · exact h.raiseDistance _
    · exact h

theorem wakeTest : s.wakeTest.Queued held := by
  unfold State.wakeTest
  split
  · exact h.elsewhere.creepTest.latch _
  · exact h

theorem afterExposure (closed : Bool) : (s.afterExposure closed).Queued held := by
  unfold State.afterExposure
  split
  · split
    · unfold State.probeMeetsExposure
      split
      · exact h.elsewhere.becomeReady
      · exact h.elsewhere.becomeReady
    · exact h.startWaitingProbe.becomeReady
  · exact h.startWaitingProbe

theorem exposureLost : s.exposureLost.Queued held :=
  ((h.elsewhere.count _).latch _).becomeReady

/-! ## Frames from the sensor (Chapter 4) -/

theorem fillLine (i : SlotId) (pixels : List (BitVec 12)) : (s.fillLine i pixels).Queued held := by
  unfold State.fillLine
  split
  · exact h
  · split
    · exact h.count _
    · split
      · exact h
      · exact h.elsewhere.count _

theorem completeFrame (i : SlotId) (r : FrameRecord) : (s.completeFrame i r).Queued held :=
  (h.elsewhere.latch _).reportEnd _

theorem voidFrame (i : SlotId) (r : FrameRecord) : (s.voidFrame i r).Queued held :=
  (((h.elsewhere.count _).latch _).reportEnd _).takeUpArmed _

theorem endFrame : s.endFrame.Queued held := by
  unfold State.endFrame
  split
  · exact h
  · unfold State.endFilling
    split
    · exact h
    · split
      · exact h.voidFrame _ _
      · exact h.completeFrame _ _
  · simp only [State.endPassing]
    split
    · exact h.elsewhere.reportEnd _
    all_goals exact h

theorem beginFrame : s.beginFrame.Queued held := by
  simp only [State.beginFrame]
  split
  · exact (h.elsewhere.count _).latch _
  · split
    · exact (h.elsewhere.count _).latch _
    · exact h

/-! ## The frame in hand (Chapter 2) -/

theorem startFrame (t : FrameTake) : (s.startFrame t).Queued held :=
  h.elsewhere.latch _

theorem reservePlaces {r : Run} (hroom : s.roomFor r.places = true) :
    (s.reservePlaces r).Queued held := by
  obtain ⟨-, hrest⟩ := h
  have hfree := (s.roomFor_iff _).mp hroom
  exact ⟨by simp only [State.reservePlaces, State.setEngine_link, State.setEngine_engine]; omega, hrest⟩

theorem claimPlaces (r : Run) : (s.claimPlaces r).1.Queued held := by
  unfold State.claimPlaces
  split
  · exact h
  · split
    · exact h.reservePlaces ‹_›
    · exact h

/-- Cells placed into reserved places take up no more than was counted (R27). -/
theorem placeVideo {cells : List Cell} (hcells : cells.length ≤ s.engine.reserved) :
    (s.placeVideo cells).Queued held := by
  obtain ⟨hvideo, hrest⟩ := h
  refine ⟨?_, hrest⟩
  simp only [State.placeVideo, State.setEngine_link, State.setLink_link, State.setEngine_engine,
    List.length_append]
  omega

/-- An item is produced into the places it claimed (R27, R28). -/
theorem produce {r : Run} (hreserved : s.engine.reserved = r.places) : (s.produce r).Queued held := by
  unfold State.produce
  split
  · rename_i cell hnext
    have hone : [cell].length ≤ s.engine.reserved := by rw [hreserved, Run.places_frameStart hnext]; rfl
    exact (h.placeVideo hone).elsewhere
  · rename_i y hnext
    split
    · exact h
    · rename_i pixels hrow
      refine (h.placeVideo (Nat.le_of_eq ?_)).elsewhere
      rw [hreserved, Run.places_row hnext, length_rowCells, List.length_map, State.length_outputRow hrow]
  · exact h

theorem frameEndStatus : s.frameEndStatus.Queued held := by
  unfold State.frameEndStatus
  split
  · exact h.statusOccasion
  · exact h

theorem handFrame (record : FrameRecord) (zones : Eight ZoneResult) :
    (s.handFrame record zones).Queued held :=
  h.elsewhere.latch _

/-- A frame is ended into the place its FRAME END claimed (R27, R32). -/
theorem endWarp {r : Run} (hreserved : 1 ≤ s.engine.reserved) (record : FrameRecord) :
    (s.endWarp r record).Queued held := by
  have hplaced := h.placeVideo (cells := [createCell s.link .frameEnd 0
    (frameEndContent r.number s.engine.results record)]) hreserved
  simp only [State.endWarp]
  set t := s.placeVideo _
  have hfreed : (t.setSlots (t.slots.set r.slot Slot.freed)).Queued held := hplaced
  exact (hfreed.handFrame record s.engine.results).frameEndStatus

theorem endStall : s.endStall.Queued held := by
  unfold State.endStall
  split
  · exact h
  · split
    · rename_i hstalls
      exact h.reservePlaces (Bool.and_eq_true_iff.mp hstalls).2
    · exact h

/-! ## Cells, ports and sending (Chapters 8 and 9) -/

theorem forwardCommand (c : Cell) : (s.forwardCommand c).Queued held := by
  unfold State.forwardCommand
  split
  · exact LinkUnit.Fits.forwardDown h c
  · split
    · exact h
    · split
      · exact LinkUnit.Fits.placeManagement h ‹_› _
      · exact h.count _

theorem receiveUpward (c : Cell) : (s.receiveUpward c).Queued held := by
  unfold State.receiveUpward
  split
  · split
    · exact LinkUnit.Fits.forwardUp h c
    · exact h.count _
  · exact h

theorem setHead (position : Option Nat) : (s.setHead position).Queued held := h

theorem takeRollCall (c : Cell) : (s.takeRollCall c).Queued held := by
  unfold State.takeRollCall
  split
  · unfold State.overlongRollCall
    split
    · exact LinkUnit.Fits.placeManagement (h.setHead none) ‹_› _
    · exact h.count _
  · split
    · unfold State.passRollCall
      split
      · exact LinkUnit.Fits.forwardDown (h.setHead _) _
      · exact h.count _
    · unfold State.turnRollCall
      split
      · exact LinkUnit.Fits.placeManagement (h.setHead _) ‹_› _
      · exact h.count _

theorem portDown (p : PortId) (midCell : Bool) : (s.portDown p midCell).Queued held := by
  unfold State.portDown
  split
  · have hlost : (s.setLink (s.link.portLost p midCell)).Queued held :=
      LinkUnit.Fits.portLost h p midCell
    exact hlost.latch _
  · exact h

theorem setPort (p : PortId) (x : Port) : (s.setLink (s.link.setPort p x)).Queued held :=
  LinkUnit.Fits.setPort h p x

theorem receiveSymbol (p : PortId) (hold : Bool) : (s.receiveSymbol p hold).Queued held := by
  unfold State.receiveSymbol
  split
  · exact h.setPort p _
  · exact h

/-- The place a management cell leaves takes an owed STATUS cell at most (R168). -/
theorem chooseManagement {c : Cell} {rest : List Cell} (hqueue : s.link.management = c :: rest) :
    (s.chooseManagement c rest).Queued held := by
  obtain ⟨hvideo, hmanagement, hup, hdown, hplace⟩ := h
  simp only [hqueue, List.length_cons] at hmanagement
  unfold State.chooseManagement State.payStatus
  split
  · refine ⟨hvideo, ?_, hup, hdown, hplace⟩
    simpa [queueStatus, LinkUnit.placeManagement, LinkUnit.beginTether] using hmanagement
  · refine ⟨hvideo, ?_, hup, hdown, hplace⟩
    simp only [State.setLink_link, LinkUnit.beginTether]
    omega

theorem chooseOwn {c : Cell} {rest : List Cell} (hqueue : s.link.ownVideo = c :: rest) :
    (s.chooseOwn c rest).Queued held := by
  obtain ⟨hvideo, hrest⟩ := h
  simp only [hqueue, List.length_cons] at hvideo
  have htaken : (s.setLink ({ s.link with ownVideo := rest, turn := .upForward }
      |>.beginTether (some c))).Queued held := ⟨by
    simp only [State.setLink_link, LinkUnit.beginTether, State.setLink_engine]; omega, hrest⟩
  exact htaken.endStall

theorem chooseForwarded {c : Cell} {rest : List Cell} (hqueue : s.link.upForward = c :: rest) :
    (s.chooseForwarded c rest).Queued held := by
  obtain ⟨hvideo, hmanagement, hup, hplaces⟩ := h
  simp only [hqueue, List.length_cons] at hup
  have htaken : ({ s.link with upForward := rest, turn := .ownVideo }
      |>.beginTether (some c)).Fits s.engine.reserved held :=
    ⟨hvideo, hmanagement, Nat.le_of_succ_le hup, hplaces⟩
  exact htaken.judgeUpHold

theorem chooseVideo : s.chooseVideo.Queued held := by
  unfold State.chooseVideo
  split
  · exact h.chooseOwn ‹_›
  · exact h.chooseForwarded ‹_›
  · exact h.chooseForwarded ‹_›
  · exact h.chooseOwn ‹_›
  · exact h
  · exact h

theorem sendDown {c : Cell} {rest : List Cell} (hqueue : s.link.downForward = c :: rest) :
    (s.setLink ({ s.link with downForward := rest }
      |>.beginChain (some c)).judgeDownHold).Queued held := by
  obtain ⟨hvideo, hmanagement, hup, hdown, hplace⟩ := h
  simp only [hqueue, List.length_cons] at hdown
  have htaken : ({ s.link with downForward := rest }
      |>.beginChain (some c)).Fits s.engine.reserved held :=
    ⟨hvideo, hmanagement, hup, Nat.le_of_succ_le hdown, hplace⟩
  exact htaken.judgeDownHold

/-! ## Commands -/

theorem setChoice {α : Type} {identifier : Byte} {value : Word} {choice : Nat → Option α}
    {store : α → State} (hstore : ∀ x, (store x).Queued held) :
    (Machine.setChoice identifier value choice store s).2.Queued held := by
  unfold Machine.setChoice
  split
  · exact h
  · exact hstore _

theorem ownSetDuty (segment : Byte) (value : Word) :
    (Machine.ownSetDuty segment value s).2.Queued held := by
  unfold Machine.ownSetDuty
  split
  · exact h
  · exact h.elsewhere.latch _

theorem ownProbe : (Machine.ownProbe s).2.Queued held := by
  unfold Machine.ownProbe
  split
  · exact h
  · exact h
  · split <;> exact h

theorem ownDarkSurvey : (Machine.ownDarkSurvey s).2.Queued held := by
  unfold Machine.ownDarkSurvey
  split
  · exact h.elsewhere.takeUpArmed _
  · exact h
  · exact h

/-! The commands of Chapter 3 set the View Bank Store alone, edit commands Sensor Intake alone. -/

theorem ownTableOpen (bank : Byte) (width height fill : BitVec 16) (label : List Byte) :
    (Machine.ownTableOpen bank width height fill label s).2.Queued held := by
  unfold Machine.ownTableOpen
  repeat' split
  all_goals exact h

theorem ownTableData (used : Byte) (bank part : BitVec 4) (number : BitVec 16)
    (entries : List Byte) : (Machine.ownTableData used bank part number entries s).2.Queued held := by
  unfold Machine.ownTableData loadSegment
  repeat' split
  all_goals exact h

theorem ownTableClose (bank : Byte) : (Machine.ownTableClose bank s).2.Queued held := by
  unfold Machine.ownTableClose
  repeat' split
  all_goals exact h

theorem ownCommitView (bank : Byte) : (Machine.ownCommitView bank s).2.Queued held := by
  unfold Machine.ownCommitView
  repeat' split
  all_goals exact h

theorem ownDefectAdd (row : BitVec 10) (column : BitVec 11) (method : BitVec 2) :
    (Machine.ownDefectAdd row column method s).2.Queued held := by
  unfold Machine.ownDefectAdd
  repeat' split
  all_goals exact h

theorem ownDefectRemove (row : BitVec 10) (column : BitVec 11) :
    (Machine.ownDefectRemove row column s).2.Queued held := by
  unfold Machine.ownDefectRemove
  repeat' split
  all_goals exact h

theorem ownDefectClear (originFilter : Byte) :
    (Machine.ownDefectClear originFilter s).2.Queued held := by
  unfold Machine.ownDefectClear
  repeat' split
  all_goals exact h

theorem decodeAnswer (number : Byte) (code : ReplyCode) :
    (Machine.decodeAnswer number code s).2.Queued held := by
  unfold Machine.decodeAnswer
  split
  · exact h
  · exact h

/-- A numbered command queues STATUS cells at most, and leaves a place held for its REPLY held. -/
theorem ownerOf {i : Instr} {number : Byte} {owner : State → Answer × State}
    (ho : Machine.ownerOf i = some (number, owner)) : (owner s).2.Queued held := by
  cases i with
  | readIdentity | readStatus | readCounters | readZoneStats | readBankInfo | readTableVerdict
  | readDefectEntries | readParameter | readProbeResult | readTemperature => cases ho; exact h
  | setSourceWidth | setSourceHeight | setBlackLevel | setDarkThreshold | setExposure | setBlurLimit
  | setBrightnessTarget | setTuneBand | setReferenceBeta | setTuneHoldoff | setEventMask
  | setTriggerStep => cases ho; exact h
  | setDwellTimeout => cases ho; exact h.elsewhere.dwellIfPassed
  | setDwellInterval | setParkInterval => cases ho; exact h.elsewhere.raiseIfDue
  | setParkTimeout => cases ho; exact h.elsewhere.parkIfPassed
  | setWakeDistance => cases ho; exact h.elsewhere.wakeTest
  | setAutoRetune | setReportMode | setLedFaultResponse | setLedFaultReport | setThermalReport =>
    cases ho; exact h.setChoice fun _ => h
  | setLedCycle | reseed => cases ho; exact h
  | setDuty => cases ho; exact h.ownSetDuty ..
  | tune => cases ho; exact h.elsewhere.latch _
  | tableOpen => cases ho; exact h.ownTableOpen ..
  | tableData => cases ho; exact h.ownTableData ..
  | tableClose => cases ho; exact h.ownTableClose ..
  | commitView => cases ho; exact h.ownCommitView ..
  | rawView => cases ho; exact h
  | defectAdd => cases ho; exact h.ownDefectAdd ..
  | defectRemove => cases ho; exact h.ownDefectRemove ..
  | defectClear => cases ho; exact h.ownDefectClear ..
  | darkSurvey => cases ho; exact h.ownDarkSurvey
  | probe => cases ho; exact h.ownProbe
  | snap => cases ho; exact h.raiseTrigger ..
  | zeroOdometer => cases ho; exact h.elsewhere.wakeTest
  | clearFaults => cases ho; exact h
  | ackReset => cases ho; exact h
  | _ => cases ho

end State.Queued

/-! ## Consumed commands and command cells -/

section
variable {s t : State}

/-- The REPLY takes the place held for it (R167). -/
theorem State.Queued.placeReply (h : s.Queued true) (tag number : Byte) (a : Answer) :
    (s.placeReply tag number a).Queued false := by
  obtain ⟨hvideo, hmanagement, hup, hdown, -⟩ := h
  refine ⟨hvideo, ?_, hup, hdown, rfl⟩
  simpa [bit] using hmanagement

/-- A place that is free can be held (R167). -/
theorem State.Queued.holdReplyPlace (h : s.Queued false) (hfree : s.link.managementFree = true) :
    s.holdReplyPlace.Queued true := by
  obtain ⟨hvideo, -, hup, hdown, hplace⟩ := h
  have hroom := s.link.managementFree_iff.mp hfree
  rw [hplace] at hroom
  exact ⟨hvideo, Nat.succ_le_of_lt hroom, hup, hdown, rfl⟩

theorem State.Queued.consume {tag number : Byte} {owner : State → Answer × State}
    (h : s.Queued false) (ho : ∀ {u : State}, u.Queued true → (owner u).2.Queued true) :
    (Machine.consume tag number owner s).Queued false := by
  unfold Machine.consume
  split
  · exact (ho (h.holdReplyPlace ‹_›)).placeReply _ _ _
  · exact h.count _

/-- RESTART empties the two queues of this head's own cells, and its REPLY is then the only cell of the
management queue (R35, R160, R176). -/
theorem State.Queued.executeRestart {held : Bool} (h : s.Queued held) (tag : Byte) :
    (s.executeRestart tag).Queued false := by
  obtain ⟨-, -, hup, hdown, -⟩ := h
  exact ⟨Nat.zero_le _, Nat.succ_le_succ (Nat.zero_le _), hup, hdown, rfl⟩

theorem State.Queued.executeCell (h : s.Queued false) (c : Cell) : (s.executeCell c).Queued false := by
  unfold State.executeCell
  split
  · exact h.executeRestart _
  · split
    · exact h.consume fun hu => hu.ownerOf ‹_›
    · exact h
  · exact h.consume fun hu => hu.decodeAnswer _ _

theorem State.Queued.routeCommand (h : s.Queued false) (c : Cell) :
    (s.routeCommand c).Queued false := by
  unfold State.routeCommand
  split
  · exact (h.executeCell c).forwardCommand c
  · split
    · exact h.executeCell c
    · exact h.forwardCommand c

theorem State.Queued.receiveCommand (h : s.Queued false) (c : Cell) :
    (s.receiveCommand c).Queued false := by
  unfold State.receiveCommand
  split
  · split
    · exact h.routeCommand c
    · exact h.count _
  · exact h

theorem State.Queued.acceptCell (h : s.Queued false) (p : PortId) (c : Cell) :
    (s.acceptCell p c).Queued false := by
  unfold State.acceptCell
  split
  · exact LinkUnit.Fits.forwardUp h c
  · split
    · exact h.routeCommand c
    · exact h.takeRollCall c

/-! ## Every command and event -/

/-- The queues are empty after a reset, and its first thermal sample queues one STATUS cell at most. -/
theorem State.afterReset_queued (s : State) (a b : Bool) (temperature : Int) :
    (s.afterReset a b temperature).Queued false := by
  have hempty : State.reset.Queued false := by
    unfold State.Queued LinkUnit.Fits
    decide
  exact hempty.elsewhere.sampled temperature

/-- Places claimed are reserved (R27). -/
theorem State.reserved_of_claimPlaces {r : Run} (h : (s.claimPlaces r).2 = true) :
    (s.claimPlaces r).1.engine.reserved = r.places := by
  unfold State.claimPlaces at h ⊢
  split
  · assumption
  · split <;> simp_all [State.reservePlaces]

theorem execItemProduction_queued (h : s.Queued false) :
    ∃ t, execItemProduction s = .next t ∧ t.Queued false := by
  refine ⟨_, rfl, ?_⟩
  split
  · exact h
  · split
    · exact h
    · split
      · exact (h.claimPlaces _).produce (State.reserved_of_claimPlaces ‹_›)
      · exact h.claimPlaces _

theorem execWarpFrameEnd_queued (h : s.Queued false) :
    ∃ t, execWarpFrameEnd s = .next t ∧ t.Queued false := by
  refine ⟨_, rfl, ?_⟩
  split
  · exact h
  · split
    · split
      · rename_i hnext _ hclaim
        have hone := (State.reserved_of_claimPlaces hclaim).trans (Run.places_frameEnd hnext)
        exact (h.claimPlaces _).endWarp (Nat.le_of_eq hone.symm) _
      · exact h.claimPlaces _
    all_goals exact h

/-- What no owner executes: the events, the command cells, RESTART and the resets. -/
theorem exec_queued_of_ownerOf_none {i : Instr} (ho : ownerOf i = none) (h : s.Queued false) :
    ∃ t, exec i s = .next t ∧ t.Queued false := by
  cases i with
  | powerOnReset | lineReset => exact ⟨_, rfl, s.afterReset_queued _ _ _⟩
  | restart => exact ⟨_, rfl, h.executeRestart _⟩
  | commandCell => exact ⟨_, rfl, h.receiveCommand _⟩
  | cellError p =>
    refine ⟨_, rfl, ?_⟩
    split
    · split
      · exact h.count _
      · exact h.acceptCell p _
    · exact h
  | tableCheckCompletion b =>
    refine ⟨_, rfl, ?_⟩
    split
    · exact h
    · exact h.elsewhere.latch _
  | rollCall =>
    refine ⟨_, rfl, ?_⟩
    split
    · split
      · exact h.takeRollCall _
      · exact h.count _
    · exact h
  | upwardCellReceipt => exact ⟨_, rfl, h.receiveUpward _⟩
  | hold | go => exact ⟨_, rfl, h.receiveSymbol _ _⟩
  | portUp =>
    refine ⟨_, rfl, ?_⟩
    split
    · exact h
    · exact (h.setPort _ _).latch _
  | portLockLoss | portSymbolTimeout => exact ⟨_, rfl, h.portDown _ _⟩
  | tetherArbiterChoice =>
    refine ⟨_, rfl, ?_⟩
    split
    · split
      · exact h.chooseManagement ‹_›
      · exact h.chooseVideo
    · exact h
  | chainOutboundSend =>
    refine ⟨_, rfl, ?_⟩
    split
    · split
      · exact h.sendDown ‹_›
      · exact h
    · exact h
  | frameBegin => exact ⟨_, rfl, h.endFrame.beginFrame⟩
  | line pixels =>
    refine ⟨_, rfl, ?_⟩
    split
    · exact h.fillLine _ pixels
    · exact h
    · exact h
  | frameEnd => exact ⟨_, rfl, h.endFrame⟩
  | warpFrameStart =>
    refine ⟨_, rfl, ?_⟩
    split
    · exact h
    · exact h.startFrame _
  | itemProduction => exact execItemProduction_queued h
  | warpFrameEnd => exact execWarpFrameEnd_queued h
  | odometerCount =>
    refine ⟨_, rfl, ?_⟩
    split
    · exact h.elsewhere.distanceTest
    · exact h.elsewhere.wakeTest
  | odoGlitch => exact ⟨_, rfl, h⟩
  | speedWindow => exact ⟨_, rfl, h⟩
  | dwellTimer =>
    refine ⟨_, rfl, ?_⟩
    split
    · exact h.elsewhere.enterDwell
    · exact h
  | parkTimer =>
    refine ⟨_, rfl, ?_⟩
    split
    · exact h.elsewhere.enterPark
    · exact h
  | timeTrigger =>
    refine ⟨_, rfl, ?_⟩
    split
    · exact h
    · exact h.elsewhere.raiseTime
  | exposureEnd =>
    refine ⟨_, rfl, ?_⟩
    split
    · exact h
    · exact h.elsewhere.afterExposure _
  | sensorTimeout | readoutLimit =>
    refine ⟨_, rfl, ?_⟩
    split
    · exact h
    · exact h.elsewhere.exposureLost
  | senseWindowClose =>
    refine ⟨_, rfl, ?_⟩
    split
    · exact h
    · exact h.elsewhere.closeSense _ _ _
  | overcurrent i =>
    refine ⟨_, rfl, ?_⟩
    split
    · exact h.elsewhere.detect i
    · exact h
  | thermalSample => exact ⟨_, rfl, h.elsewhere.sampled _⟩
  | probeCompletion =>
    refine ⟨_, rfl, ?_⟩
    split
    · exact h.elsewhere.latch _
    · exact h
  | _ => cases ho

theorem exec_queued (i : Instr) (h : s.Queued false) : ∃ t, exec i s = .next t ∧ t.Queued false := by
  cases ho : ownerOf i with
  | none => exact exec_queued_of_ownerOf_none ho h
  | some owned =>
    obtain ⟨tag, hexec⟩ := exec_of_ownerOf ho s
    exact ⟨_, hexec, h.consume fun hu => hu.ownerOf ho⟩

theorem step_queued (h : s.Queued false) (hstep : step s = .next t) : t.Queued false := by
  cases hp : s.pending with
  | nil =>
    simp only [step, hp, Host.Outcome.next.injEq] at hstep
    subst hstep
    exact h
  | cons c rest =>
    obtain ⟨u, hexec, hqueued⟩ := exec_queued c (s := { s with pending := rest }) h
    simp only [step, hp, hexec, Host.Outcome.next.injEq] at hstep
    exact hstep ▸ hqueued

end

/-- Settles O53: every operation keeps the queues with the places reserved and held counted as occupied, and
a place held while a command runs is taken by its REPLY. -/
theorem stepsKeepTheQueuesBounded : Obligations.StepsKeepTheQueuesBounded :=
  fun s t hbounded hstep => t.queued_iff.mp (step_queued (s.queued_iff.mpr hbounded) hstep)

end Sys2Proof.Machine

/-! PROOFS. Cells on the wire: the seventy bytes of a cell spell it back, and a port accepts no others as
that cell. -/

namespace Sys2Proof.Machine

/-! ## Fields of a byte and of two bytes (R146) -/

/-- A bit vector is the append of its upper and lower part. -/
theorem extractLsb'_append_extractLsb'_self {m n : Nat} (x : BitVec (m + n)) :
    x.extractLsb' n m ++ x.extractLsb' 0 n = x :=
  (BitVec.extractLsb'_append_extractLsb'_eq_extractLsb' (by omega)).trans BitVec.extractLsb'_eq_self

/-- Two parts spell a bit vector exactly when they are its upper and lower part. -/
theorem append_eq_iff {m n : Nat} (a : BitVec m) (b : BitVec n) (x : BitVec (m + n)) :
    a ++ b = x ↔ a = x.extractLsb' n m ∧ b = x.extractLsb' 0 n := by
  constructor
  · rintro rfl
    exact ⟨BitVec.extractLsb'_append_eq_left.symm, BitVec.extractLsb'_append_eq_right.symm⟩
  · rintro ⟨rfl, rfl⟩
    exact extractLsb'_append_extractLsb'_self x

theorem append_eq_iff_halfBytes (a b : Byte) (h : BitVec 16) : a ++ b = h ↔ [a, b] = halfBytes h := by
  simpa [halfBytes] using append_eq_iff (m := 8) (n := 8) a b h

/-! ## The check sequence (R147) -/

@[simp] theorem length_halfBytes (h : BitVec 16) : (halfBytes h).length = 2 := rfl

/-- Seventy bytes carry their check sequence exactly when it is the last two of them (R147). -/
theorem checkHolds_iff (bytes : List Byte) :
    checkHolds bytes = true ↔
      bytes.length = 70 ∧ bytes = bytes.take 68 ++ halfBytes (checkSequence (bytes.take 68)) := by
  rw [checkHolds, Bool.and_eq_true_iff, decide_eq_true_iff, decide_eq_true_iff]
  refine and_congr_right fun hlength => ?_
  obtain ⟨a, b, hlast⟩ : ∃ a b, bytes.drop 68 = [a, b] :=
    List.length_eq_two.mp (by rw [List.length_drop, hlength])
  have hhalf : payloadHalf bytes 68 = a ++ b := by
    have ha : bytes[68]? = some a := by simpa [hlast] using (List.getElem?_drop (xs := bytes) (i := 68) (j := 0)).symm
    have hb : bytes[69]? = some b := by simpa [hlast] using (List.getElem?_drop (xs := bytes) (i := 68) (j := 1)).symm
    simp [payloadHalf, payloadByte, List.getD_eq_getElem?_getD, ha, hb]
  rw [hhalf, eq_comm, append_eq_iff_halfBytes, ← hlast]
  constructor
  · intro h
    rw [← h, List.take_append_drop]
  · intro h
    exact List.append_cancel_left ((List.take_append_drop 68 bytes).trans h)

/-! ## Header and payload (TABLE 8-2) -/

theorem kindOf_eq_some_iff (n : Nat) (k : CellKind) : kindOf n = some k ↔ n = kindCode k := by
  constructor
  · unfold kindOf
    split <;> rintro ⟨⟩ <;> rfl
  · rintro rfl
    cases k <;> rfl

/-- The first byte of a cell is the code of its kind. -/
theorem kindOf_toNat_eq_some_iff (b : Byte) (k : CellKind) :
    kindOf b.toNat = some k ↔ b = byteOf (kindCode k) := by
  have hcode : kindCode k < 2 ^ 8 := by cases k <;> decide
  rw [kindOf_eq_some_iff, byteOf]
  constructor
  · rintro h
    rw [← h, BitVec.ofNat_toNat, BitVec.setWidth_eq]
  · rintro rfl
    rw [BitVec.toNat_ofNat, Nat.mod_eq_of_lt hcode]

/-- Sixty-eight bytes spell the one cell of which they are header and payload. -/
theorem cellOf_eq_some_iff {body : List Byte} (h : body.length = 68) (c : Cell) :
    cellOf body = some c ↔ body = cellBody c := by
  obtain ⟨b0, b1, b2, b3, payload, rfl⟩ : ∃ b0 b1 b2 b3 payload, body = b0 :: b1 :: b2 :: b3 :: payload := by
    match body, h with
    | b0 :: b1 :: b2 :: b3 :: payload, _ => exact ⟨b0, b1, b2, b3, payload, rfl⟩
  obtain ⟨kind, source, dest, tag, used, rest⟩ := c
  have hnibbles := append_eq_iff (m := 4) (n := 4) source dest b1
  simp only [cellOf, payloadByte, List.getD_cons_zero, List.getD_cons_succ, List.drop_succ_cons,
    List.drop_zero, Option.map_eq_some_iff, kindOf_toNat_eq_some_iff, Cell.mk.injEq, cellBody,
    List.cons_append, List.nil_append, List.cons.injEq]
  constructor
  · rintro ⟨k, hk, rfl, hs, hd, ht, hu, hp⟩
    exact ⟨hk, (hnibbles.mpr ⟨hs.symm, hd.symm⟩).symm, ht, hu, hp⟩
  · rintro ⟨hk, hb, ht, hu, hp⟩
    obtain ⟨hs, hd⟩ := hnibbles.mp hb.symm
    exact ⟨kind, hk, rfl, hs.symm, hd.symm, ht, hu, hp⟩

theorem length_cellBody (c : Cell) : (cellBody c).length = c.payload.length + 4 := by
  simp [cellBody]

/-! ## Acceptance (R149) -/

theorem travelsInto_iff (p : PortId) (k : CellKind) :
    travelsInto p k = true ↔ (p = .tether ↔ k = .command ∨ k = .rollCall) := by
  cases p <;> cases k <;> decide

theorem acceptable_iff (p : PortId) (c : Cell) :
    acceptable p c = true ↔
      c.used.toNat ≤ 64 ∧ (p = .tether ↔ c.kind = .command ∨ c.kind = .rollCall)
        ∧ ¬(p = .tether ∧ c.kind = .command ∧ c.dest = 0) := by
  simp only [acceptable, Bool.and_eq_true_iff, decide_eq_true_iff, travelsInto_iff, and_assoc,
    Bool.not_eq_true', ← Bool.not_eq_true]

theorem acceptedCell_eq_some_iff (p : PortId) (bytes : List Byte) (c : Cell) :
    acceptedCell p bytes = some c ↔
      checkHolds bytes = true ∧ cellOf (bytes.take 68) = some c ∧ acceptable p c = true := by
  unfold acceptedCell
  cases checkHolds bytes with
  | false => simp
  | true =>
    cases cellOf (bytes.take 68) with
    | none => simp
    | some d =>
      simp only [if_true, Option.ite_none_right_eq_some, Option.some.injEq, true_and]
      exact ⟨fun ⟨ha, hd⟩ => ⟨hd, hd ▸ ha⟩, fun ⟨hd, ha⟩ => ⟨hd ▸ ha, hd⟩⟩

/-- Seventy bytes that check and spell a cell are the bytes it leaves a port as (R147). -/
theorem wire_iff (bytes : List Byte) (c : Cell) :
    checkHolds bytes = true ∧ cellOf (bytes.take 68) = some c ↔
      bytes = cellWire c ∧ c.payload.length = 64 := by
  have hbody : c.payload.length = 64 → (cellBody c).length = 68 := fun h => by rw [length_cellBody, h]
  rw [checkHolds_iff]
  constructor
  · rintro ⟨⟨hlength, hcheck⟩, hcell⟩
    have htake : (bytes.take 68).length = 68 := by rw [List.length_take, hlength]; rfl
    rw [cellOf_eq_some_iff htake] at hcell
    rw [hcell] at hcheck
    refine ⟨hcheck, ?_⟩
    rw [hcell, length_cellBody] at htake
    omega
  · rintro ⟨rfl, hpayload⟩
    have htake : (cellWire c).take 68 = cellBody c := List.take_left' (hbody hpayload)
    rw [htake, cellOf_eq_some_iff (hbody hpayload)]
    exact ⟨⟨by simp [cellWire, hbody hpayload], rfl⟩, rfl⟩

/-- Settles O60: the check sequence and the header are read back from the bytes they were sent as. -/
theorem cellsSurviveTheWire : Obligations.CellsSurviveTheWire := by
  intro p bytes c
  rw [acceptedCell_eq_some_iff, ← and_assoc, wire_iff, acceptable_iff, and_assoc]

end Sys2Proof.Machine

/-! PROOFS. Decode reads back the command that a payload spells, whatever stands in the bits that the
layouts of TABLE 8-7 ignore. -/

namespace Sys2Proof

open Machine

/-! ## Payloads (R146) -/

/-- Bytes filled up to a payload read as they are, and as 0 beyond their end (R146). -/
@[simp] theorem getD_padPayload (bytes : List Byte) (k : Nat) :
    (padPayload bytes).getD k 0 = bytes.getD k 0 := by
  simp only [padPayload, List.getD_eq_getElem?_getD, List.getElem?_append,
    List.getElem?_replicate]
  split
  · rfl
  · rename_i hk
    rw [List.getElem?_eq_none (Nat.le_of_not_lt hk)]
    split <;> rfl

@[simp] theorem payloadByte_padPayload (bytes : List Byte) (k : Nat) :
    payloadByte (padPayload bytes) k = bytes.getD k 0 :=
  getD_padPayload bytes k

/-- A payload is read as received within the used length, and as 0 beyond it (R146). -/
theorem payloadByte_readablePayload (used : Byte) (payload : List Byte) (k : Nat) :
    payloadByte (readablePayload used payload) k =
      if k < used.toNat ∧ k < 64 then payload.getD k 0 else 0 := by
  simp only [readablePayload, payloadByte_padPayload, List.getD_eq_getElem?_getD, List.getElem?_take]
  by_cases hk : k < used.toNat <;> by_cases h : k < 64 <;> simp [hk, h]

theorem length_padPayload {bytes : List Byte} (h : bytes.length ≤ 64) : (padPayload bytes).length = 64 := by
  simp [padPayload, h]

theorem length_readablePayload (used : Byte) (payload : List Byte) :
    (readablePayload used payload).length = 64 :=
  length_padPayload (by simp only [List.length_take]; omega)

/-- Two payloads that read alike are alike. -/
theorem payload_ext {p q : List Byte} (hlength : p.length = q.length)
    (h : ∀ k < p.length, payloadByte p k = payloadByte q k) : p = q := by
  refine List.ext_getElem hlength fun k hp hq => ?_
  have hk := h k hp
  rwa [payloadByte, payloadByte, List.getD_eq_getElem _ _ hp, List.getD_eq_getElem _ _ hq] at hk

/-- A payload filled up from its used length is read as it is. -/
theorem readablePayload_padPayload {bytes : List Byte} (h : bytes.length ≤ 64) :
    readablePayload (BitVec.ofNat 8 bytes.length) (padPayload bytes) = padPayload bytes := by
  have hused : (BitVec.ofNat 8 bytes.length).toNat = bytes.length := by
    rw [BitVec.toNat_ofNat, Nat.mod_eq_of_lt (by omega)]
  refine payload_ext (by rw [length_readablePayload, length_padPayload h]) fun k _ => ?_
  rw [payloadByte_readablePayload, hused, payloadByte_padPayload, getD_padPayload]
  split
  · rfl
  · rw [List.getD_eq_default _ _ (by omega)]

/-- Bytes that a payload holds from a place on. -/
theorem take_drop_of_payloadByte {p bytes : List Byte} {start : Nat}
    (hlength : start + bytes.length ≤ p.length)
    (h : ∀ i < bytes.length, payloadByte p (start + i) = bytes.getD i 0) :
    (p.drop start).take bytes.length = bytes := by
  refine List.ext_getElem (by simp; omega) fun i hi hbytes => ?_
  have hplace : start + i < p.length := by omega
  have hbyte := h i hbytes
  rw [payloadByte, List.getD_eq_getElem _ _ hplace, List.getD_eq_getElem _ _ hbytes] at hbyte
  simpa using hbyte

/-! ## The contents of commands (TABLE 8-7) -/

/-- Every numbered command is one of the nineteen, and its content reaches the least used length and stays
within a payload. -/
theorem commandContent_bounds {c : Instr} {tag : Byte} {content : List Byte} (hwf : WellFormed c = true)
    (h : commandContent c = some (tag, content)) :
    content.length ≤ 64 ∧ 1 ≤ (content.getD 0 0).toNat ∧ (content.getD 0 0).toNat ≤ 19
      ∧ leastUsedLength (content.getD 0 0).toNat ≤ content.length := by
  cases c with
  | tableOpen tag bank width height fill label =>
    cases h
    have hlabel : label.length = 8 := by simpa [WellFormed, wfLabel] using hwf
    simp [halfBytes, hlabel, leastUsedLength]
  | tableData tag used bank part number entries =>
    cases h
    simp only [WellFormed, wfSegment, Bool.and_eq_true, decide_eq_true_eq, beq_iff_eq] at hwf
    obtain ⟨n, hn⟩ : ∃ n, used.toNat = n + 1 := ⟨used.toNat - 1, by omega⟩
    simp [hn, leastUsedLength]
    omega
  | _ => cases h <;> exact ⟨Nat.le_of_ble_eq_true rfl, Nat.le_of_ble_eq_true rfl, Nat.le_of_ble_eq_true rfl, Nat.le_of_ble_eq_true rfl⟩

/-- The bits of a command's byte `k` that its layout gives a meaning: the rest are ignored (TABLE 8-7). -/
def layoutMask (content : List Byte) (k : Nat) : Byte :=
  if content.getD 0 0 = 2 ∧ content.getD 1 0 ≠ 14 ∧ k = 2 then 0
  else if content.getD 0 0 = 2 ∧ content.getD 1 0 = 24 ∧ (k = 3 ∨ k = 4) then 0
  else if content.getD 0 0 = 2 ∧ content.getD 1 0 = 24 ∧ k = 5 then 0x7f
  else if content.getD 0 0 = 1 ∧ content.getD 1 0 = 8 ∧ content.getD 2 0 ≠ 14 ∧ k = 3 then 0
  else if content.getD 0 0 = 8 ∧ k = 3 then 0xfe
  else if content.getD 0 0 = 9 ∧ k = 3 then 0xf8
  else 0xff

/-- A payload spells a command's content: they agree in every bit that the layout gives a meaning. -/
def Spells (p content : List Byte) : Prop :=
  ∀ k < content.length, payloadByte p k &&& layoutMask content k = content.getD k 0 &&& layoutMask content k

theorem Spells.byte {p content : List Byte} (h : Spells p content) {k : Nat} (hk : k < content.length)
    (hmask : layoutMask content k = 0xff) : payloadByte p k = content.getD k 0 := by
  have hbyte := h k hk
  rw [hmask] at hbyte
  exact (BitVec.and_allOnes (x := payloadByte p k)).symm.trans (hbyte.trans BitVec.and_allOnes)

/-- The command number is spelt in full. -/
theorem Spells.number {p content : List Byte} (h : Spells p content) (hk : 0 < content.length) :
    payloadByte p 0 = content.getD 0 0 :=
  h.byte hk (by simp [layoutMask])

theorem Spells.second {p content : List Byte} (h : Spells p content) (hk : 1 < content.length) :
    payloadByte p 1 = content.getD 1 0 :=
  h.byte hk (by simp [layoutMask])

theorem spells_padPayload (content : List Byte) : Spells (padPayload content) content :=
  fun k _ => by rw [payloadByte_padPayload]

/-- A command with the bytes that its layout gives no meaning as the payload holds them. -/
def Instr.reread (p : List Byte) (c : Instr) : Instr :=
  match c with
  | .setEventMask tag _ => .setEventMask tag (payloadWord p 3)
  | .readParameter tag identifier _ => .readParameter tag identifier (payloadByte p 3)
  | _ => c

/-- A 16-bit field whose two bytes a payload holds. -/
theorem payloadHalf_of_bytes {p : List Byte} {k : Nat} {h : BitVec 16}
    (h0 : payloadByte p k = h.extractLsb' 8 8) (h1 : payloadByte p (k + 1) = h.extractLsb' 0 8) :
    payloadHalf p k = h := by
  rw [payloadHalf, h0, h1]
  exact extractLsb'_append_extractLsb'_self (m := 8) (n := 8) h

/-- A 32-bit field whose four bytes a payload holds. -/
theorem payloadWord_of_bytes {p : List Byte} {k : Nat} {w : Word}
    (h : ∀ i < 4, payloadByte p (k + i) = (wordBytes w).getD i 0) : payloadWord p k = w := by
  have h0 : payloadByte p k = (wordBytes w).getD 0 0 := h 0 (by decide)
  have h1 := h 1 (by decide)
  have h2 := h 2 (by decide)
  have h3 := h 3 (by decide)
  rw [payloadWord, h0, h1, h2, h3]
  simp only [wordBytes, List.getD_cons_zero, List.getD_cons_succ]
  rw [BitVec.extractLsb'_append_extractLsb'_eq_extractLsb' (start₂ := 24)
      (start₁ := 16) (x := w) rfl,
    BitVec.extractLsb'_append_extractLsb'_eq_extractLsb' (start₂ := 16)
      (start₁ := 8) (x := w) rfl,
    BitVec.extractLsb'_append_extractLsb'_eq_extractLsb' (start₂ := 8)
      (start₁ := 0) (x := w) rfl, BitVec.extractLsb'_eq_self]

section
variable {tag used : Byte} {p : List Byte}

/-- SET of a parameter other than EVENT MASK reads its four value bytes; the segment byte is DUTY's. -/
theorem decodeByNumber_of_set {identifier segment : Byte} {value : Word}
    (h : Spells p (setContent identifier segment value)) (hid : identifier ≠ 24#8) :
    decodeByNumber tag used p = decodeSet tag identifier (payloadByte p 2) value := by
  have h0 : payloadByte p 0 = 2 := h.number (by simp [setContent])
  have h1 : payloadByte p 1 = identifier := h.second (by simp [setContent, wordBytes])
  have hvalue : payloadWord p 3 = value := by
    refine payloadWord_of_bytes fun i hi => ?_
    have hmask : layoutMask (setContent identifier segment value) (3 + i) = 0xff := by
      have hplace : 3 + i ≠ 2 := by omega
      simp [layoutMask, setContent, hid, hplace]
    rw [h.byte (by simp [setContent, wordBytes]; omega) hmask]
    simp [setContent, Nat.add_comm 3]
  rw [decodeByNumber, h0, h1, hvalue]
  rfl

/-- The masks of a READ PARAMETER: the segment byte counts for DUTY alone. -/
theorem decodeByNumber_of_readParameter {identifier segment : Byte}
    (h : Spells p [1, 8, identifier, segment]) (hused : 4 ≤ used.toNat) :
    decodeByNumber tag used p = .run (.readParameter tag identifier (payloadByte p 3)) := by
  have h0 : payloadByte p 0 = 1 := h.number (by simp)
  have h1 : payloadByte p 1 = 8 := h.second (by simp)
  have h2 : payloadByte p 2 = identifier := h.byte (by simp) (by simp [layoutMask])
  rw [decodeByNumber, h0]
  simp only [decodeRead, h1, h2]
  exact if_neg (Nat.not_lt_of_le hused)

/-- A field of a 24-bit defect entry is read from a payload that holds its bits (TABLE 8-3). -/
theorem payloadTriple_field {e : BitVec 24} {mask : Byte} {start len : Nat}
    (h1 : payloadByte p 1 = e.extractLsb' 16 8) (h2 : payloadByte p 2 = e.extractLsb' 8 8)
    (h3 : payloadByte p 3 &&& mask = e.extractLsb' 0 8 &&& mask)
    (hmask : ∀ i, start ≤ i → i < 8 → mask.getLsbD i = true) (hlen : start + len ≤ 24) :
    (payloadTriple p 1).extractLsb' start len = e.extractLsb' start len := by
  refine BitVec.eq_of_getLsbD_eq fun i hi => ?_
  have hlast (j : Nat) (hj : j < 8) (hs : start ≤ j) : (payloadByte p 3).getLsbD j = e.getLsbD j := by
    have hbit := congrArg (BitVec.getLsbD · j) h3
    simpa only [BitVec.getLsbD_and, hmask j hs hj, Bool.and_true, BitVec.getLsbD_extractLsb', hj,
      decide_true, Bool.true_and, Nat.zero_add] using hbit
  simp only [BitVec.getLsbD_extractLsb', payloadTriple, h1, h2, BitVec.getLsbD_append, hi,
    decide_true, Bool.true_and]
  split
  · exact hlast _ ‹_› (by omega)
  · split
    · rw [decide_eq_true ‹_›, Bool.true_and]
      congr 1
      omega
    · rw [decide_eq_true (by omega), Bool.true_and]
      congr 1
      omega

/-- A defect edit's field, by the bytes that spell it but for the bits its layout ignores. -/
theorem Spells.defectField {number : Byte} {row : BitVec 10} {column : BitVec 11} {method : BitVec 2}
    (h : Spells p (number :: defectEntryBytes row column method 0)) {mask : Byte} {start len : Nat}
    (hthird : layoutMask (number :: defectEntryBytes row column method 0) 3 = mask)
    (hfirst : layoutMask (number :: defectEntryBytes row column method 0) 2 = 0xff)
    (hmask : ∀ i, start ≤ i → i < 8 → mask.getLsbD i = true) (hlen : start + len ≤ 24) :
    (payloadTriple p 1).extractLsb' start len
      = (packDefectEntry row column method 0).extractLsb' start len :=
  payloadTriple_field (h.second (by simp [defectEntryBytes])) (h.byte (by simp [defectEntryBytes]) hfirst)
    (hthird ▸ h 3 (by simp [defectEntryBytes])) hmask hlen

theorem packDefectEntry_row (row : BitVec 10) (column : BitVec 11) (method : BitVec 2)
    (origin : BitVec 1) : (packDefectEntry row column method origin).extractLsb' 14 10 = row := by
  refine BitVec.eq_of_getLsbD_eq fun i hi => ?_
  simp only [packDefectEntry, BitVec.getLsbD_extractLsb', BitVec.getLsbD_append]
  grind

theorem packDefectEntry_column (row : BitVec 10) (column : BitVec 11) (method : BitVec 2)
    (origin : BitVec 1) : (packDefectEntry row column method origin).extractLsb' 3 11 = column := by
  refine BitVec.eq_of_getLsbD_eq fun i hi => ?_
  simp only [packDefectEntry, BitVec.getLsbD_extractLsb', BitVec.getLsbD_append]
  grind

theorem packDefectEntry_method (row : BitVec 10) (column : BitVec 11) (method : BitVec 2)
    (origin : BitVec 1) : (packDefectEntry row column method origin).extractLsb' 1 2 = method := by
  refine BitVec.eq_of_getLsbD_eq fun i hi => ?_
  simp only [packDefectEntry, BitVec.getLsbD_extractLsb', BitVec.getLsbD_append]
  grind

theorem decodeByNumber_of_defectAdd {row : BitVec 10} {column : BitVec 11} {method : BitVec 2}
    (h : Spells p (8 :: defectEntryBytes row column method 0)) :
    decodeByNumber tag used p = .run (.defectAdd tag row column method) := by
  have h0 : payloadByte p 0 = 8 := h.number (by simp)
  have hmask : ∀ i, 1 ≤ i → i < 8 → (0xfe : Byte).getLsbD i = true := by decide
  have hfield {start len : Nat} (hstart : 1 ≤ start) (hlen : start + len ≤ 24) :=
    h.defectField (start := start) (len := len) rfl rfl (fun i hi => hmask i (hstart.trans hi)) hlen
  rw [decodeByNumber, h0]
  simp only [hfield (start := 14) (len := 10) (by decide) (by decide),
    hfield (start := 3) (len := 11) (by decide) (by decide),
    hfield (start := 1) (len := 2) (by decide) (by decide), packDefectEntry_row, packDefectEntry_column,
    packDefectEntry_method]
  rfl

theorem decodeByNumber_of_defectRemove {row : BitVec 10} {column : BitVec 11}
    (h : Spells p (9 :: defectEntryBytes row column 0 0)) :
    decodeByNumber tag used p = .run (.defectRemove tag row column) := by
  have h0 : payloadByte p 0 = 9 := h.number (by simp)
  have hmask : ∀ i, 3 ≤ i → i < 8 → (0xf8 : Byte).getLsbD i = true := by decide
  have hfield {start len : Nat} (hstart : 3 ≤ start) (hlen : start + len ≤ 24) :=
    h.defectField (start := start) (len := len) rfl rfl (fun i hi => hmask i (hstart.trans hi)) hlen
  rw [decodeByNumber, h0]
  simp only [hfield (start := 14) (len := 10) (by decide) (by decide),
    hfield (start := 3) (len := 11) (by decide) (by decide), packDefectEntry_row, packDefectEntry_column]
  rfl

/-- A payload that spells a content whose layout ignores nothing holds the content's bytes. -/
theorem Spells.plain {content : List Byte} (h : Spells p content)
    (hplain : content.getD 0 0 = 3 ∨ content.getD 0 0 = 4) {k : Nat} (hk : k < content.length) :
    payloadByte p k = content.getD k 0 :=
  h.byte hk (by rcases hplain with h0 | h0 <;> rw [layoutMask, h0] <;> simp)

theorem decodeByNumber_of_tableOpen {bank : Byte} {width height fill : BitVec 16} {label : List Byte}
    (hlabel : label.length = 8) (hlength : p.length = 64)
    (h : Spells p ([3, bank] ++ halfBytes width ++ halfBytes height ++ halfBytes fill ++ label)) :
    decodeByNumber tag used p = .run (.tableOpen tag bank width height fill label) := by
  have hbyte {k : Nat} (hk : k < 16) := h.plain (.inl rfl) (k := k) (by simp [hlabel, hk])
  have hread : (p.drop 8).take 8 = label := by
    rw [← hlabel]
    refine take_drop_of_payloadByte (by omega) fun i hi => ?_
    rw [hlabel, hbyte (by omega)]
    simp [halfBytes, Nat.add_comm 8]
  have h0 : payloadByte p 0 = 3 := hbyte (by decide)
  have h1 : payloadByte p 1 = bank := hbyte (by decide)
  have hwidth := payloadHalf_of_bytes (k := 2) (h := width) (hbyte (by decide)) (hbyte (by decide))
  have hheight := payloadHalf_of_bytes (k := 4) (h := height) (hbyte (by decide)) (hbyte (by decide))
  have hfill := payloadHalf_of_bytes (k := 6) (h := fill) (hbyte (by decide)) (hbyte (by decide))
  rw [decodeByNumber, h0, h1, hwidth, hheight, hfill, hread]
  rfl

/-- A TABLE DATA content is as long as its used length and names its command (TABLE 8-7). -/
theorem tableData_content {bank part : BitVec 4} {number : BitVec 16} {entries : List Byte}
    (hwf : wfSegment used entries = true) :
    let content := ([4, bank ++ part] ++ halfBytes number ++ entries).take used.toNat
    content.length = used.toNat ∧ content.getD 0 0 = 4 := by
  simp only [wfSegment, Bool.and_eq_true, decide_eq_true_eq, beq_iff_eq] at hwf
  obtain ⟨⟨⟨hsize, hleast⟩, hmost⟩, -⟩ := hwf
  refine ⟨by simp [hsize]; omega, ?_⟩
  rw [List.getD_eq_getElem?_getD, List.getElem?_take_of_lt (by omega)]
  rfl

/-- The bytes of TABLE DATA beyond its used length read as 0, as its entries there are (R44, R146). -/
theorem payloadByte_of_tableData {bank part : BitVec 4} {number : BitVec 16} {entries : List Byte}
    (hwf : wfSegment used entries = true) (hzero : ∀ k, used.toNat ≤ k → payloadByte p k = 0)
    (h : Spells p (([4, bank ++ part] ++ halfBytes number ++ entries).take used.toNat)) (k : Nat) :
    payloadByte p k = ([4, bank ++ part] ++ halfBytes number ++ entries).getD k 0 := by
  obtain ⟨-, hfirst⟩ := tableData_content (bank := bank) (part := part) (number := number) hwf
  simp only [wfSegment, Bool.and_eq_true, decide_eq_true_eq, beq_iff_eq, List.all_eq_true] at hwf
  obtain ⟨⟨⟨hsize, hleast⟩, hmost⟩, hrest⟩ := hwf
  set content := [4, bank ++ part] ++ halfBytes number ++ entries
  have hlength : content.length = 64 := by simp [content, hsize]
  by_cases hk : k < used.toNat
  · rw [h.plain (.inr hfirst) (by rw [List.length_take]; omega), List.getD_eq_getElem?_getD,
      List.getElem?_take_of_lt hk, List.getD_eq_getElem?_getD]
  · rw [hzero k (by omega)]
    by_cases hend : k < 64
    · have hentry : content[k]'(by omega) = entries[k - 4]'(by omega) := by
        simp only [content]
        rw [List.getElem_append_right (by simp; omega)]
        simp
      rw [List.getD_eq_getElem _ _ (by omega), hentry]
      refine (hrest _ (List.mem_iff_getElem.mpr ⟨k - used.toNat, by simp; omega, ?_⟩)).symm
      rw [List.getElem_drop]
      congr 1
      omega
    · rw [List.getD_eq_default _ _ (by omega)]

theorem decodeByNumber_of_tableData {bank part : BitVec 4} {number : BitVec 16} {entries : List Byte}
    (hwf : wfSegment used entries = true) (hlength : p.length = 64)
    (hzero : ∀ k, used.toNat ≤ k → payloadByte p k = 0)
    (h : Spells p (([4, bank ++ part] ++ halfBytes number ++ entries).take used.toNat)) :
    decodeByNumber tag used p = .run (.tableData tag used bank part number entries) := by
  have hbyte := payloadByte_of_tableData hwf hzero h
  have hsize : entries.length = 60 := by simp_all [wfSegment]
  have hread : (p.drop 4).take 60 = entries := by
    rw [← hsize]
    refine take_drop_of_payloadByte (by omega) fun i hi => ?_
    rw [hbyte]
    simp [halfBytes, Nat.add_comm 4]
  have h0 : payloadByte p 0 = 4 := hbyte 0
  have h1 : payloadByte p 1 = bank ++ part := hbyte 1
  have hnumber := payloadHalf_of_bytes (k := 2) (h := number) (hbyte 2) (hbyte 3)
  obtain ⟨hbank, hpart⟩ := (append_eq_iff (m := 4) (n := 4) bank part _).mp rfl
  rw [decodeByNumber, h0, h1, hnumber, hread, ← hbank, ← hpart]
  rfl

/-- A payload that spells a command's content is decoded as that command, by its command number. -/
theorem decodeByNumber_of_spells {c : Instr} {content : List Byte} (hwf : WellFormed c = true)
    (hcontent : commandContent c = some (tag, content)) (hused : content.length ≤ used.toNat)
    (hdata : content.getD 0 0 = 4 → used.toNat = content.length) (hlength : p.length = 64)
    (hzero : ∀ k, used.toNat ≤ k → payloadByte p k = 0) (h : Spells p content) :
    decodeByNumber tag used p = .run (c.reread p) := by
  cases c with
  | readIdentity | readStatus | readCounters | readBankInfo | readTableVerdict | readProbeResult
  | readTemperature =>
    cases hcontent
    rw [decodeByNumber, h.number (by decide), decodeRead, h.second (by decide)]
    rfl
  | readZoneStats =>
    cases hcontent
    rw [decodeByNumber, h.number (by simp), decodeRead, h.second (by simp),
      h.byte (k := 2) (by simp) (by simp [layoutMask])]
    exact if_neg (Nat.not_lt_of_le hused)
  | readDefectEntries tag start =>
    cases hcontent
    have hstart : payloadHalf p 2 = start :=
      payloadHalf_of_bytes (h.byte (by simp) rfl) (h.byte (by simp) rfl)
    rw [decodeByNumber, h.number (by simp), decodeRead, h.second (by simp), hstart]
    exact if_neg (Nat.not_lt_of_le hused)
  | readParameter =>
    cases hcontent
    exact decodeByNumber_of_readParameter h hused
  | setSourceWidth | setSourceHeight | setBlackLevel | setDarkThreshold | setExposure | setBlurLimit
  | setTriggerStep | setDwellTimeout | setDwellInterval | setParkTimeout | setParkInterval
  | setWakeDistance | setLedCycle | setBrightnessTarget | setTuneBand | setReferenceBeta
  | setTuneHoldoff | setAutoRetune | setLedFaultResponse | setLedFaultReport | setThermalReport
  | setReportMode =>
    cases hcontent
    exact decodeByNumber_of_set h (by decide)
  | setDuty =>
    cases hcontent
    rw [decodeByNumber_of_set h (by decide), h.byte (k := 2) (by simp [setContent]) rfl]
    rfl
  | setEventMask =>
    cases hcontent
    rw [decodeByNumber, h.number (by simp [setContent]), h.second (by simp [setContent])]
    rfl
  | tableOpen =>
    cases hcontent
    exact decodeByNumber_of_tableOpen (by simpa [WellFormed, wfLabel] using hwf) hlength h
  | tableData tag size bank part number entries =>
    cases hcontent
    obtain ⟨hsize, hfirst⟩ := tableData_content (bank := bank) (part := part) (number := number) hwf
    obtain rfl : used = size := BitVec.eq_of_toNat_eq ((hdata hfirst).trans hsize)
    exact decodeByNumber_of_tableData hwf hlength hzero h
  | defectAdd => cases hcontent; exact decodeByNumber_of_defectAdd h
  | defectRemove => cases hcontent; exact decodeByNumber_of_defectRemove h
  | tableClose | commitView | defectClear | tune | reseed =>
    cases hcontent
    rw [decodeByNumber, h.number (by simp), h.second (by simp)]
    rfl
  | rawView | darkSurvey | probe | snap | zeroOdometer | clearFaults | ackReset | restart =>
    cases hcontent
    rw [decodeByNumber, h.number (by decide)]
    rfl
  | _ => cases hcontent

/-- A cell whose bytes spell a command's content is decoded as that command (R167). -/
theorem decodeCommand_of_spells {c : Instr} {content payload : List Byte} (hwf : WellFormed c = true)
    (hcontent : commandContent c = some (tag, content)) (hused : content.length ≤ used.toNat)
    (hdata : content.getD 0 0 = 4 → used.toNat = content.length)
    (h : Spells (readablePayload used payload) content) :
    decodeCommand tag used payload = .run (c.reread (readablePayload used payload)) := by
  obtain ⟨-, hfirst, hlast, hleast⟩ := commandContent_bounds hwf hcontent
  have hlength : 0 < content.length := by
    by_contra hnil
    rw [Nat.not_lt, Nat.le_zero, List.length_eq_zero_iff] at hnil
    simp [hnil] at hfirst
  have hnumber := h.number hlength
  have hzero (k : Nat) (hk : used.toNat ≤ k) : payloadByte (readablePayload used payload) k = 0 := by
    rw [payloadByte_readablePayload, if_neg (by omega)]
  have hknown : ¬(content.getD 0 0 = 0 ∨ 19 < (content.getD 0 0).toNat) := by
    rintro (h0 | h0)
    · rw [h0] at hfirst
      exact absurd hfirst (by decide)
    · omega
  simp only [decodeCommand, hnumber]
  rw [if_neg hknown, if_neg (by omega)]
  exact decodeByNumber_of_spells hwf hcontent hused hdata (length_readablePayload ..) hzero h

end

/-! ## Commands decode as encoded -/

theorem encodeCommand_eq_some_iff {c : Instr} {tag used : Byte} {payload : List Byte} :
    encodeCommand c = some (tag, used, payload) ↔
      ∃ content, commandContent c = some (tag, content) ∧ used = BitVec.ofNat 8 content.length
        ∧ payload = padPayload content := by
  simp only [encodeCommand, Option.map_eq_some_iff, Prod.mk.injEq, Prod.exists]
  constructor
  · rintro ⟨t, content, h, rfl, rfl, rfl⟩
    exact ⟨content, h, rfl, rfl⟩
  · rintro ⟨content, h, rfl, rfl⟩
    exact ⟨tag, content, h, rfl, rfl, rfl⟩

/-- A payload that is a command's own content is read back whole. -/
theorem reread_padPayload {c : Instr} {tag : Byte} {content : List Byte}
    (h : commandContent c = some (tag, content)) : c.reread (padPayload content) = c := by
  cases c with
  | setEventMask tag value =>
    cases h
    have hvalue : payloadWord (padPayload (setContent 24 0 value)) 3 = value :=
      payloadWord_of_bytes fun i _ => by simp [setContent, Nat.add_comm 3]
    rw [Instr.reread, hvalue]
  | readParameter => cases h; rfl
  | _ => rfl

/-- Settles O59: the cell of a command spells the command's content in every bit. -/
theorem commandsDecodeAsEncoded : Obligations.CommandsDecodeAsEncoded := by
  intro c tag used payload hwf hencode
  obtain ⟨content, hcontent, rfl, rfl⟩ := encodeCommand_eq_some_iff.mp hencode
  obtain ⟨hlength, -⟩ := commandContent_bounds hwf hcontent
  have hused : (BitVec.ofNat 8 content.length).toNat = content.length := by
    rw [BitVec.toNat_ofNat, Nat.mod_eq_of_lt (by omega)]
  have hread := readablePayload_padPayload hlength
  refine ⟨length_padPayload hlength, hused.trans_le hlength, ?_⟩
  rw [decodeCommand_of_spells hwf hcontent hused.ge (fun _ => hused), hread, reread_padPayload hcontent]
  rw [hread]
  exact spells_padPayload content

end Sys2Proof

/-! PROOFS. A COMMAND cell on the tether port: received or in error, routed by its destination, and run as the
command its bytes spell or answered by decode. -/

namespace Sys2Proof.Machine

/-! ## Receipt and routing (R149, R152) -/

section
variable {s : State} {source dest : BitVec 4} {tag used : Byte} {payload : List Byte}

theorem exec_commandCell : exec (.commandCell source dest tag used payload) s
    = .next (s.receiveCommand { kind := .command, source, dest, tag, used, payload }) := rfl

theorem exec_commandCell_of_down (h : s.link.tether.up = false) :
    exec (.commandCell source dest tag used payload) s = .next s := by
  rw [exec_commandCell, State.receiveCommand, if_neg (by simp [h])]

/-- A COMMAND is accepted with a used length of at most 64 and a destination other than 0 (R149). -/
theorem acceptable_command_iff :
    acceptable .tether { kind := .command, source, dest, tag, used, payload } = true
      ↔ used.toNat ≤ 64 ∧ dest ≠ 0 := by
  simp [acceptable_iff]

theorem exec_commandCell_of_error (h : s.link.tether.up = true) (herror : 64 < used.toNat ∨ dest = 0) :
    exec (.commandCell source dest tag used payload) s = .next (s.cellError .tether) := by
  have hrefused : ¬(used.toNat ≤ 64 ∧ dest ≠ 0) := by
    rintro ⟨hused, hdest⟩
    exact herror.elim (Nat.not_lt_of_le hused) hdest
  rw [exec_commandCell, State.receiveCommand, if_pos h, if_neg (mt acceptable_command_iff.mp hrefused)]

theorem exec_commandCell_of_accepted (h : s.link.tether.up = true) (hused : used.toNat ≤ 64)
    (hdest : dest ≠ 0) :
    exec (.commandCell source dest tag used payload) s
      = .next (s.routeCommand { kind := .command, source, dest, tag, used, payload }) := by
  rw [exec_commandCell, State.receiveCommand, if_pos h, if_pos (acceptable_command_iff.mpr ⟨hused, hdest⟩)]

end

section
variable {s : State} {c : Cell}

theorem State.routeCommand_broadcast (h : c.dest = 15) :
    s.routeCommand c = (s.executeCell c).forwardCommand c :=
  if_pos h

theorem State.routeCommand_here (h : c.dest ≠ 15) (hposition : s.link.position = some c.dest.toNat) :
    s.routeCommand c = s.executeCell c := by
  rw [State.routeCommand, if_neg h, if_pos hposition]

theorem State.routeCommand_elsewhere (h : c.dest ≠ 15) (hposition : s.link.position ≠ some c.dest.toNat) :
    s.routeCommand c = s.forwardCommand c := by
  rw [State.routeCommand, if_neg h, if_neg hposition]

/-! ## Forwarding (R153, R154) -/

/-- With a place in the queue a cell joins it, and HOLD is judged at 12 and 8 (R154). -/
theorem LinkUnit.forwardDown_of_room {l : LinkUnit} (h : l.downForward.length < 16) (c : Cell) :
    l.forwardDown c = { l with
      downForward := l.downForward ++ [c]
      tether := if 11 ≤ l.downForward.length then l.tether.ask true
        else if l.downForward.length ≤ 7 then l.tether.ask false
        else l.tether } := by
  have hhold : Config.downHoldAt ≤ (l.downForward ++ [c]).length ↔ 11 ≤ l.downForward.length := by
    simp [Config.downHoldAt]
  have hgo : (l.downForward ++ [c]).length ≤ Config.downGoAt ↔ l.downForward.length ≤ 7 := by
    simp only [Config.downGoAt, List.length_append, List.length_singleton]
    omega
  rw [LinkUnit.forwardDown, if_pos (by exact h), LinkUnit.judgeDownHold]
  simp only [hhold, hgo]
  split
  · rfl
  · split <;> rfl

/-- With 16 cells in the queue a cell is discarded and counted (R153). -/
theorem LinkUnit.forwardDown_of_full {l : LinkUnit} (h : 16 ≤ l.downForward.length) (c : Cell) :
    l.forwardDown c = { l with counters := { l.counters with
      downForwardDiscards := min 4294967295 (l.counters.downForwardDiscards + 1) } } :=
  if_neg (Nat.not_lt_of_le h)

theorem State.forwardCommand_of_up (h : s.link.chain.up = true) :
    s.forwardCommand c = s.setLink (s.link.forwardDown c) :=
  if_pos h

/-- The command number of a cell: 0 when its used length is 0 (R146, R167). -/
theorem payloadByte_zero (used : Byte) (payload : List Byte) :
    payloadByte (readablePayload used payload) 0 = if used = 0 then 0 else payload.getD 0 0 := by
  have hpositive : 0 < used.toNat ↔ used ≠ 0 := by
    rw [Nat.pos_iff_ne_zero, ne_eq, ne_eq, BitVec.toNat_eq]
    rfl
  rw [payloadByte_readablePayload]
  simp only [hpositive, Nat.zero_lt_succ, and_true, ite_not]

/-- At the chain's end a unicast COMMAND is answered NO SUCH HEAD in the place that is free (R153). -/
theorem State.forwardCommand_of_end (h : s.link.chain.up = false) (hdest : c.dest ≠ 15)
    (hplace : s.PlaceFree) :
    s.forwardCommand c = s.placeReply c.tag (if c.used = 0 then 0 else c.payload.getD 0 0)
      { code := .noSuchHead, content := [BitVec.ofNat 8 c.dest.toNat] } := by
  obtain ⟨hroom, hheld⟩ := hplace
  have hfree : s.link.managementFree = true := by
    rw [s.link.managementFree_iff, hheld]
    exact hroom
  rw [State.forwardCommand, if_neg (by simp [h]), if_neg hdest, if_pos hfree, State.placeReply,
    noSuchHead, payloadByte_zero]
  simp only [LinkUnit.placeManagement, hheld]
  rfl

theorem LinkUnit.managementFree_of_full {l : LinkUnit} (h : 32 ≤ l.management.length) :
    ¬l.managementFree = true := by
  rw [l.managementFree_iff]
  omega

theorem State.forwardCommand_of_no_place (h : s.link.chain.up = false) (hdest : c.dest ≠ 15)
    (hfull : 32 ≤ s.link.management.length) :
    s.forwardCommand c = s.count Counters.dropReply := by
  rw [State.forwardCommand, if_neg (by simp [h]), if_neg hdest,
    if_neg (LinkUnit.managementFree_of_full hfull)]

end

/-- Settles O27: receipt, the destination and the chain port decide in turn what becomes of the cell. -/
theorem commandsAreRouted : Obligations.CommandsAreRouted := by
  refine ⟨fun s source dest tag used payload => ⟨exec_commandCell_of_down, exec_commandCell_of_error,
    fun hup hused hdest => ⟨fun hhere hposition => ?_, fun hall => ?_, fun hhere hposition => ?_⟩⟩,
    fun s c => ⟨fun hup hroom => ?_, fun hup hfull => ?_, fun hdown hall => ?_,
      State.forwardCommand_of_end, State.forwardCommand_of_no_place⟩⟩
  · rw [exec_commandCell_of_accepted hup hused hdest, State.routeCommand_here hhere hposition]
  · rw [exec_commandCell_of_accepted hup hused hdest, State.routeCommand_broadcast hall]
  · rw [exec_commandCell_of_accepted hup hused hdest, State.routeCommand_elsewhere hhere hposition]
  · rw [State.forwardCommand_of_up hup, LinkUnit.forwardDown_of_room hroom]
    rfl
  · rw [State.forwardCommand_of_up hup, LinkUnit.forwardDown_of_full hfull]
    rfl
  · rw [State.forwardCommand, if_neg (by simp [hdown]), if_pos hall]

/-! ## Consumed commands (R152, R167) -/

/-- A command decoded from a cell is executed as its own row, with the cell's tag. -/
theorem exec_of_decodeCommand {c : Cell} {i : Instr} {content : List Byte}
    (hdecode : decodeCommand c.tag c.used c.payload = .run i)
    (hcontent : commandContent i = some (c.tag, content)) (s : State) :
    exec i s = .next (s.executeCell c) := by
  unfold State.executeCell
  rw [hdecode]
  cases i <;> cases hcontent <;> rfl

/-- The tag of a command read anew is the command's. -/
theorem commandContent_reread {c : Instr} {tag : Byte} {content : List Byte}
    (h : commandContent c = some (tag, content)) (p : List Byte) :
    ∃ content', commandContent (c.reread p) = some (tag, content') := by
  cases c with
  | setEventMask | readParameter => cases h; exact ⟨_, rfl⟩
  | _ => exact ⟨content, h⟩

/-- The mask's fifteen bits stand in the last two of the four value bytes. -/
theorem setWidth_payloadWord {p : List Byte} {value : Word} (h : Spells p (setContent 24 0 value)) :
    (payloadWord p 3).setWidth 15 = value.setWidth 15 := by
  have h5 : payloadByte p 5 &&& 0x7f = value.extractLsb' 8 8 &&& 0x7f := h 5 (by simp [setContent, wordBytes])
  have h6 : payloadByte p 6 = value.extractLsb' 0 8 := h.byte (by simp [setContent, wordBytes]) rfl
  have hupper (i : Nat) (hi : i < 7) : (payloadByte p 5).getLsbD i = value.getLsbD (8 + i) := by
    have hbit := congrArg (BitVec.getLsbD · i) h5
    have hmask : ∀ i, i < 7 → (0x7f : Byte).getLsbD i = true := by decide
    simpa only [BitVec.getLsbD_and, hmask i hi, Bool.and_true, BitVec.getLsbD_extractLsb',
      show i < 8 by omega, decide_true, Bool.true_and] using hbit
  refine BitVec.eq_of_getLsbD_eq fun i hi => ?_
  simp only [BitVec.getLsbD_setWidth, hi, decide_true, Bool.true_and, payloadWord, h6,
    BitVec.getLsbD_append, BitVec.getLsbD_extractLsb']
  split
  · simp [*]
  · rw [if_pos (by omega), hupper _ (by omega)]
    congr 1
    omega

/-- What a layout ignores makes no difference to a command's row. -/
theorem exec_reread {c : Instr} {tag : Byte} {content p : List Byte}
    (hcontent : commandContent c = some (tag, content)) (h : Spells p content) (s : State) :
    exec (c.reread p) s = exec c s := by
  cases c with
  | setEventMask tag value =>
    cases hcontent
    have hmask := setWidth_payloadWord h
    have howner : ownSetEventMask (payloadWord p 3) = ownSetEventMask value := by
      funext u
      rw [ownSetEventMask, hmask]
      rfl
    exact congrArg (fun owner => Host.Outcome.next (consume tag 2 owner s)) howner
  | readParameter tag identifier segment =>
    cases hcontent
    have howner : ownReadParameter identifier (payloadByte p 3) = ownReadParameter identifier segment := by
      by_cases hduty : identifier = 14
      · rw [h.byte (k := 3) (by simp) (by simp [layoutMask, hduty])]
        rfl
      · funext u
        simp only [ownReadParameter, parameterAnswer, if_neg hduty]
    exact congrArg (fun owner => Host.Outcome.next (consume tag 1 owner s)) howner
  | _ => rfl

/-- A payload is read as received where it spells a content within the used length. -/
theorem spells_readablePayload {used : Byte} {payload content : List Byte}
    (hused : content.length ≤ used.toNat) (hmost : used.toNat ≤ 64)
    (h : ∀ k < content.length,
      payload.getD k 0 &&& layoutMask content k = content.getD k 0 &&& layoutMask content k) :
    Spells (readablePayload used payload) content := by
  intro k hk
  rw [payloadByte_readablePayload, if_pos ⟨by omega, by omega⟩]
  exact h k hk

/-- Settles O28: the cell spells the command's content, so decode finds the command, and its owner reads
none of what the layout ignores. -/
theorem commandCellRunsItsCommand : Obligations.CommandCellRunsItsCommand := by
  intro s c source dest tag used least payload bytes hwf hencode hup hmost _ hlength set kept hkept
  obtain ⟨content, hcontent, rfl, rfl⟩ := encodeCommand_eq_some_iff.mp hencode
  obtain ⟨hcontained, -⟩ := commandContent_bounds hwf hcontent
  have hleast : (BitVec.ofNat 8 content.length).toNat = content.length := by
    rw [BitVec.toNat_ofNat, Nat.mod_eq_of_lt (by omega)]
  simp only [getD_padPayload, hleast, kept, set] at hlength hkept
  have hused : content.length ≤ used.toNat := by
    rcases hlength with rfl | ⟨hle, -⟩
    · exact hleast.ge
    · exact hle
  have hdata : content.getD 0 0 = 4 → used.toNat = content.length := by
    rcases hlength with rfl | ⟨-, hother⟩
    · exact fun _ => hleast
    · exact fun h => absurd h hother
  have hspells := spells_readablePayload hused hmost hkept
  have hdecode := decodeCommand_of_spells hwf hcontent hused hdata hspells
  obtain ⟨content', hcontent'⟩ := commandContent_reread hcontent (readablePayload used payload)
  have hexec (dest : BitVec 4) : exec c s
      = .next (s.executeCell { kind := .command, source, dest, tag, used, payload }) :=
    (exec_reread hcontent hspells s).symm.trans (exec_of_decodeCommand hdecode hcontent' s)
  refine ⟨fun hdest hhere hposition => ?_, _, hexec 15, ?_⟩
  · rw [exec_commandCell_of_accepted hup hmost hdest, State.routeCommand_here hhere hposition,
      hexec dest]
  · rw [exec_commandCell_of_accepted hup hmost (by decide), State.routeCommand_broadcast rfl]

/-! ## What decode answers itself (R167) -/

section
variable {s : State} {tag used number : Byte} {payload : List Byte} {code : ReplyCode}

/-- The content of an answer of decode: the sizes with an edit command, else none (R73, R167). -/
theorem decodeAnswer_eq (number : Byte) (code : ReplyCode) (s : State) :
    decodeAnswer number code s =
      ({ code, content := if number = 8 ∨ number = 9 ∨ number = 10 then
          bigEndian 2 s.intake.projected.length ++ [BitVec.ofNat 8 s.intake.edits.length] else [] }, s) := by
  unfold decodeAnswer
  split <;> rfl

/-- A cell that decode answers changes nothing but for the answer placed, and is then forwarded when it is
a broadcast. -/
theorem exec_commandCell_of_answer {source dest : BitVec 4} (hplace : s.PlaceFree)
    (hup : s.link.tether.up = true) (hdest : dest ≠ 0)
    (hhere : dest = 15 ∨ s.link.position = some dest.toNat) (hused : used.toNat ≤ 64)
    (hdecode : decodeCommand tag used payload = .answer number code) :
    exec (.commandCell source dest tag used payload) s = .next
      (if dest = 15 then
        (s.placeReply tag number (decodeAnswer number code s).1).forwardCommand
          { kind := .command, source, dest, tag, used, payload }
      else s.placeReply tag number (decodeAnswer number code s).1) := by
  have hexecuted : s.executeCell { kind := .command, source, dest, tag, used, payload }
      = s.placeReply tag number (decodeAnswer number code s).1 := by
    simp only [State.executeCell, hdecode]
    exact consume_of_unchanged hplace (by rw [decodeAnswer_eq, decodeAnswer_eq]; rfl)
  rw [exec_commandCell_of_accepted hup hused hdest, State.routeCommand, hexecuted]
  by_cases hall : dest = 15
  · simp only [hall, if_true]
  · rw [if_neg hall, if_neg hall, if_pos (hhere.resolve_left hall)]

/-- A number that no command has (R167 case a). -/
theorem decodeCommand_of_unknown (h : number = 0 ∨ 19 < number.toNat)
    (hnumber : payloadByte (readablePayload used payload) 0 = number) :
    decodeCommand tag used payload = .answer number .unknownCommand := by
  simp only [decodeCommand, hnumber]
  exact if_pos h

/-- A used length below the least of the command (R167 case b). -/
theorem decodeCommand_of_short (hshort : used.toNat < leastUsedLength number.toNat)
    (hknown : ¬(number = 0 ∨ 19 < number.toNat))
    (hnumber : payloadByte (readablePayload used payload) 0 = number) :
    decodeCommand tag used payload = .answer number .badValue := by
  simp only [decodeCommand, hnumber]
  rw [if_neg hknown]
  exact if_pos hshort

/-- READ of a used length that holds the item's number. -/
theorem decodeCommand_of_read (hused : 2 ≤ used.toNat)
    (hnumber : payloadByte (readablePayload used payload) 0 = 1) :
    decodeCommand tag used payload = decodeRead tag used (readablePayload used payload) := by
  simp only [decodeCommand, hnumber, decodeByNumber]
  exact (if_neg (by decide)).trans (if_neg (Nat.not_lt_of_le hused))

/-- SET of a whole used length. -/
theorem decodeCommand_of_set (hused : 7 ≤ used.toNat)
    (hnumber : payloadByte (readablePayload used payload) 0 = 2) :
    ∃ segment value, decodeCommand tag used payload
      = decodeSet tag (payloadByte (readablePayload used payload) 1) segment value := by
  refine ⟨payloadByte (readablePayload used payload) 2, payloadWord (readablePayload used payload) 3, ?_⟩
  simp only [decodeCommand, hnumber, decodeByNumber]
  exact (if_neg (by decide)).trans (if_neg (Nat.not_lt_of_le hused))

/-- The ten items of READ are the numbers 1 to 10 (TABLE 8-9). -/
theorem decodeRead_of_unknown {p : List Byte}
    (h : payloadByte p 1 = 0 ∨ 10 < (payloadByte p 1).toNat) :
    decodeRead tag used p = .answer 1 .noSuchItem := by
  rcases h with h | h
  · rw [decodeRead, h]
    rfl
  · unfold decodeRead
    split
    case h_11 => rfl
    all_goals omega

/-- The parameters of SET are the numbers 1 to 24 (TABLE 10-3). -/
theorem decodeSet_of_unknown {identifier segment : Byte} {value : Word}
    (h : identifier = 0 ∨ 24 < identifier.toNat) :
    decodeSet tag identifier segment value = .answer 2 .noSuchItem := by
  rcases h with h | h
  · rw [h]
    rfl
  · unfold decodeSet
    split
    case h_25 => rfl
    all_goals omega

/-- ZONE STATS, DEFECT ENTRIES and PARAMETER need more bytes than the other items (TABLE 8-7). -/
theorem decodeRead_of_short {p : List Byte}
    (h : payloadByte p 1 = 4 ∧ used.toNat = 2
      ∨ (payloadByte p 1 = 7 ∨ payloadByte p 1 = 8) ∧ (used.toNat = 2 ∨ used.toNat = 3)) :
    decodeRead tag used p = .answer 1 .badValue := by
  rcases h with ⟨hitem, hused⟩ | ⟨hitem | hitem, hused⟩
  all_goals
    rw [decodeRead, hitem]
    exact if_pos (by omega)

end

/-- Settles O29: decode judges the number, then the used length, then the item. -/
theorem decodeAnswersMalformedCommands : Obligations.DecodeAnswersMalformedCommands := by
  intro s source dest tag used payload hplace hup hdest hhere hused _ number second answered
  have hnumber : payloadByte (readablePayload used payload) 0 = number := payloadByte_zero used payload
  have hsecond (h : 2 ≤ used.toNat) : payloadByte (readablePayload used payload) 1 = second := by
    rw [payloadByte_readablePayload, if_pos ⟨h, by decide⟩]
  clear_value number second
  have hanswer {code : ReplyCode} {content : List Byte}
      (hdecode : decodeCommand tag used payload = .answer number code)
      (hcontent : (if number = 8 ∨ number = 9 ∨ number = 10 then
        bigEndian 2 s.intake.projected.length ++ [BitVec.ofNat 8 s.intake.edits.length] else []) = content) :
      answered code content := by
    have hexec := exec_commandCell_of_answer (source := source) hplace hup hdest hhere hused hdecode
    rw [decodeAnswer_eq, hcontent] at hexec
    exact hexec
  refine ⟨fun hunknown => ?_, fun hshort => ?_, fun hshort => ?_, fun hread hlong hitem => ?_,
    fun hread hshort => ?_, fun hset hlong hitem => ?_⟩
  · refine hanswer (decodeCommand_of_unknown hunknown hnumber) (if_neg ?_)
    rintro (rfl | rfl | rfl) <;> exact absurd hunknown (by decide)
  · rcases hshort with ⟨rfl | rfl | rfl | rfl | rfl, hlength⟩ | ⟨rfl, hlength⟩ | ⟨rfl, hlength⟩
    all_goals exact hanswer (decodeCommand_of_short hlength (by decide) hnumber) (if_neg (by decide))
  · rcases hshort with ⟨rfl | rfl, hlength⟩ | ⟨rfl, hlength⟩
    all_goals exact hanswer (decodeCommand_of_short hlength (by decide) hnumber) (if_pos (by decide))
  · subst hread
    rw [← hsecond hlong] at hitem
    exact hanswer ((decodeCommand_of_read hlong hnumber).trans (decodeRead_of_unknown hitem))
      (if_neg (by decide))
  · subst hread
    have hlong : 2 ≤ used.toNat := by omega
    rw [← hsecond hlong] at hshort
    exact hanswer ((decodeCommand_of_read hlong hnumber).trans (decodeRead_of_short hshort))
      (if_neg (by decide))
  · subst hset
    rw [← hsecond (by omega)] at hitem
    obtain ⟨segment, value, hdecode⟩ := decodeCommand_of_set (tag := tag) hlong hnumber
    exact hanswer (hdecode.trans (decodeSet_of_unknown hitem)) (if_neg (by decide))

end Sys2Proof.Machine

/-! PROOFS. Roll call and upward cells: what a ROLL CALL makes of the head position and of itself, and what
becomes of a cell received on either port. -/

namespace Sys2Proof.Machine

/-! ## ROLL CALL (R161 to R164) -/

section
variable {s : State} {source dest : BitVec 4} {tag used : Byte} {payload : List Byte}

theorem exec_rollCall : exec (.rollCall source dest tag used payload) s = .next (
    if s.link.tether.up then
      if acceptable .tether { kind := .rollCall, source, dest, tag, used, payload } then
        s.takeRollCall { kind := .rollCall, source, dest, tag, used, payload }
      else s.cellError .tether
    else s) := rfl

/-- A ROLL CALL is accepted with a used length of at most 64 (R149). -/
theorem acceptable_rollCall_iff :
    acceptable .tether { kind := .rollCall, source, dest, tag, used, payload } = true
      ↔ used.toNat ≤ 64 := by
  simp [acceptable_iff]

theorem exec_rollCall_of_accepted (h : s.link.tether.up = true) (hused : used.toNat ≤ 64) :
    exec (.rollCall source dest tag used payload) s
      = .next (s.takeRollCall { kind := .rollCall, source, dest, tag, used, payload }) := by
  rw [exec_rollCall, if_pos h, if_pos (acceptable_rollCall_iff.mpr hused)]

end

section
variable {s : State} {c : Cell}

/-- A head with a free place of the management queue, none being held. -/
theorem LinkUnit.managementFree_of_room {l : LinkUnit} (hheld : l.replyPlace = false)
    (h : l.management.length < 32) : l.managementFree = true := by
  rw [l.managementFree_iff, hheld]
  exact h

/-- The records of the cell with this head's record after them (R162). -/
theorem appendPresence_eq (s : State) (c : Cell) :
    appendPresence s c = { c with
      used := BitVec.ofNat 8 (14 + 12 * rollCount c)
      payload := padPayload ([BitVec.ofNat 8 (rollCount c + 1),
          (readablePayload c.used c.payload).getD 1 0]
        ++ ((readablePayload c.used c.payload).drop 2).take (12 * rollCount c)
        ++ [BitVec.ofNat 8 (rollCount c + 1), 0x0e, 0x24, 1]
        ++ bigEndian 6 Config.serialNumber.toNat ++ [8, s.summary]) } := by
  have hused : 2 + 12 * (rollCount c + 1) = 14 + 12 * rollCount c := by omega
  rw [appendPresence, hused, presenceRecord]
  simp only [byteOf, List.append_assoc]
  rfl

/-- A ROLL CALL turned around by a head that takes a position (R162 case b, R163, R164). -/
theorem setHead_turnAround (position : Option Nat) (d : Cell) :
    (s.setHead position).setLink ((s.setHead position).link.placeManagement
        (turnAround (s.setHead position).link d))
      = { s with link := { s.link with
          position
          management := s.link.management ++
            [{ d with kind := .rollCallReply, source := BitVec.ofNat 4 (position.getD 0), dest := 0 }] } } :=
  rfl

theorem State.takeRollCall_pass (hcount : rollCount c < 4) (hup : s.link.chain.up = true) :
    s.takeRollCall c = s.passRollCall c := by
  rw [State.takeRollCall, if_neg (Nat.not_le_of_lt hcount), if_pos hup]

theorem State.takeRollCall_turn (hcount : rollCount c < 4) (hdown : s.link.chain.up = false) :
    s.takeRollCall c = s.turnRollCall c := by
  rw [State.takeRollCall, if_neg (Nat.not_le_of_lt hcount), if_neg (by simp [hdown])]

theorem State.takeRollCall_overlong (hcount : 4 ≤ rollCount c) :
    s.takeRollCall c = s.overlongRollCall c :=
  if_pos hcount

/-- With a place in the down-forward queue the head takes its position and passes the cell on (R162). -/
theorem State.passRollCall_of_room (h : s.link.downForward.length < 16) :
    s.passRollCall c = { s with link := { s.link with
      position := some (rollCount c + 1)
      downForward := s.link.downForward ++ [appendPresence s c]
      tether := if 11 ≤ s.link.downForward.length then s.link.tether.ask true
        else if s.link.downForward.length ≤ 7 then s.link.tether.ask false
        else s.link.tether } } := by
  have hpassed : s.passRollCall c = (s.setHead (some (rollCount c + 1))).setLink
      ((s.setHead (some (rollCount c + 1))).link.forwardDown (appendPresence s c)) := if_pos h
  have hroom : (s.setHead (some (rollCount c + 1))).link.downForward.length < 16 := h
  rw [hpassed, LinkUnit.forwardDown_of_room hroom]
  rfl

/-- With no place the cell is lost, and the position stays (R162). -/
theorem State.passRollCall_of_full (h : 16 ≤ s.link.downForward.length) :
    s.passRollCall c = s.count fun k => k.downDiscard 1 :=
  if_neg (Nat.not_lt_of_le h)

/-- A ROLL CALL of count 4 or more, or at the chain's end, that finds no place is dropped (R162, R163). -/
theorem State.takeRollCall_of_full (h : 4 ≤ rollCount c ∨ s.link.chain.up = false)
    (hfull : 32 ≤ s.link.management.length) : s.takeRollCall c = s.count Counters.dropReply := by
  have hnone := LinkUnit.managementFree_of_full hfull
  by_cases hcount : 4 ≤ rollCount c
  · rw [State.takeRollCall_overlong hcount]
    exact if_neg hnone
  · rw [State.takeRollCall_turn (Nat.lt_of_not_le hcount) (h.resolve_left hcount)]
    exact if_neg hnone

end

/-- Settles O30: the count and the chain port choose one of three ways, each of which needs one place. -/
theorem rollCallAssignsPositions : Obligations.RollCallAssignsPositions := by
  intro s source dest tag used payload
  refine ⟨fun hdown => ?_, fun hup hused => ?_, fun hup hused hheld => ?_⟩
  · rw [exec_rollCall, if_neg (by simp [hdown])]
  · rw [exec_rollCall, if_pos hup, if_neg (mt acceptable_rollCall_iff.mp (Nat.not_le_of_lt hused))]
    rfl
  intro p n grown turned
  let c : Cell := { kind := .rollCall, source, dest, tag, used, payload }
  have hexec : exec (.rollCall source dest tag used payload) s = .next (s.takeRollCall c) :=
    exec_rollCall_of_accepted hup hused
  refine ⟨fun hcount hchain hroom => ?_, fun hcount hchain hfull => ?_, fun hcount hchain hroom => ?_,
    fun hcount hroom => ?_, fun hway hfull => ?_⟩ <;> rw [hexec]
  · rw [State.takeRollCall_pass (c := c) hcount hchain, State.passRollCall_of_room hroom, appendPresence_eq]
    rfl
  · rw [State.takeRollCall_pass (c := c) hcount hchain, State.passRollCall_of_full hfull]
    rfl
  · have hturned : s.turnRollCall c = _ := if_pos (LinkUnit.managementFree_of_room hheld hroom)
    rw [State.takeRollCall_turn (c := c) hcount hchain, hturned, setHead_turnAround, appendPresence_eq]
    rfl
  · have hturned : s.overlongRollCall c = _ := if_pos (LinkUnit.managementFree_of_room hheld hroom)
    rw [State.takeRollCall_overlong (c := c) hcount, hturned, setHead_turnAround]
    rfl
  · rw [State.takeRollCall_of_full (c := c) hway hfull]
    rfl

/-! ## Upward cells (R149, R156) -/

section
variable {s : State} {c : Cell}

theorem acceptable_chain_iff :
    acceptable .chain c = true ↔ c.used.toNat ≤ 64 ∧ c.kind ≠ .command ∧ c.kind ≠ .rollCall := by
  simp [acceptable_iff]

/-- With a place in the queue an upward cell joins it, and HOLD is judged at 96 and 64 (R156). -/
theorem LinkUnit.forwardUp_of_room {l : LinkUnit} (h : l.upForward.length < 128) (c : Cell) :
    l.forwardUp c = { l with
      upForward := l.upForward ++ [c]
      chain := if 95 ≤ l.upForward.length then l.chain.ask true
        else if l.upForward.length ≤ 63 then l.chain.ask false
        else l.chain } := by
  have hhold : Config.upHoldAt ≤ (l.upForward ++ [c]).length ↔ 95 ≤ l.upForward.length := by
    simp [Config.upHoldAt]
  have hgo : (l.upForward ++ [c]).length ≤ Config.upGoAt ↔ l.upForward.length ≤ 63 := by
    simp only [Config.upGoAt, List.length_append, List.length_singleton]
    omega
  rw [LinkUnit.forwardUp, if_pos (by exact h), LinkUnit.judgeUpHold]
  simp only [hhold, hgo]
  split
  · rfl
  · split <;> rfl

theorem LinkUnit.forwardUp_of_full {l : LinkUnit} (h : 128 ≤ l.upForward.length) (c : Cell) :
    l.forwardUp c = { l with counters := { l.counters with
      upForwardDiscards := min 4294967295 (l.counters.upForwardDiscards + 1) } } :=
  if_neg (Nat.not_lt_of_le h)

theorem exec_upwardCellReceipt : exec (.upwardCellReceipt c) s = .next (s.receiveUpward c) := rfl

theorem exec_upwardCellReceipt_of_down (h : s.link.chain.up = false) :
    exec (.upwardCellReceipt c) s = .next s := by
  rw [exec_upwardCellReceipt, State.receiveUpward, if_neg (by simp [h])]

theorem exec_upwardCellReceipt_of_accepted (h : s.link.chain.up = true) (hc : acceptable .chain c = true) :
    exec (.upwardCellReceipt c) s = .next (s.setLink (s.link.forwardUp c)) := by
  rw [exec_upwardCellReceipt, State.receiveUpward, if_pos h, if_pos hc]

/-! ## Cells received in error or not (R149) -/

theorem exec_cellError (p : PortId) (bytes : List Byte) : exec (.cellError p bytes) s = .next (
    if (s.link.port p).up then
      match acceptedCell p bytes with
      | none => s.cellError p
      | some c => s.acceptCell p c
    else s) := rfl

theorem exec_cellError_of_down {p : PortId} {bytes : List Byte} (h : (s.link.port p).up = false) :
    exec (.cellError p bytes) s = .next s := by
  rw [exec_cellError, if_neg (by simp [h])]

theorem exec_cellError_of_error {p : PortId} {bytes : List Byte} (h : (s.link.port p).up = true)
    (hnone : acceptedCell p bytes = none) :
    exec (.cellError p bytes) s = .next (s.cellError p) := by
  rw [exec_cellError, if_pos h, hnone]

theorem exec_cellError_of_accepted {p : PortId} {bytes : List Byte} (h : (s.link.port p).up = true)
    (hsome : acceptedCell p bytes = some c) :
    exec (.cellError p bytes) s = .next (s.acceptCell p c) := by
  rw [exec_cellError, if_pos h, hsome]

theorem exec_cellError_chain {bytes : List Byte} (hsome : acceptedCell .chain bytes = some c) :
    exec (.cellError .chain bytes) s = exec (.upwardCellReceipt c) s := by
  obtain ⟨-, -, hc⟩ := (acceptedCell_eq_some_iff ..).mp hsome
  by_cases hup : s.link.chain.up = true
  · rw [exec_cellError_of_accepted (p := .chain) hup hsome, exec_upwardCellReceipt_of_accepted hup hc]
    rfl
  · rw [Bool.not_eq_true] at hup
    rw [exec_cellError_of_down (p := .chain) hup, exec_upwardCellReceipt_of_down hup]

theorem exec_cellError_command {bytes : List Byte} (hsome : acceptedCell .tether bytes = some c)
    (hkind : c.kind = .command) :
    exec (.cellError .tether bytes) s = exec (.commandCell c.source c.dest c.tag c.used c.payload) s := by
  obtain ⟨-, -, hc⟩ := (acceptedCell_eq_some_iff ..).mp hsome
  obtain ⟨kind, source, dest, tag, used, payload⟩ := c
  obtain rfl : kind = .command := hkind
  by_cases hup : s.link.tether.up = true
  · rw [exec_cellError_of_accepted (p := .tether) hup hsome, exec_commandCell, State.receiveCommand, if_pos hup, if_pos hc]
    rfl
  · rw [Bool.not_eq_true] at hup
    rw [exec_cellError_of_down (p := .tether) hup, exec_commandCell_of_down hup]

theorem exec_cellError_rollCall {bytes : List Byte} (hsome : acceptedCell .tether bytes = some c)
    (hkind : c.kind ≠ .command) :
    exec (.cellError .tether bytes) s = exec (.rollCall c.source c.dest c.tag c.used c.payload) s := by
  obtain ⟨-, -, hc⟩ := (acceptedCell_eq_some_iff ..).mp hsome
  obtain ⟨-, hdown, -⟩ := (acceptable_iff ..).mp hc
  obtain ⟨kind, source, dest, tag, used, payload⟩ := c
  obtain rfl : kind = .rollCall := (hdown.mp rfl).resolve_left hkind
  by_cases hup : s.link.tether.up = true
  · rw [exec_cellError_of_accepted (p := .tether) hup hsome, exec_rollCall, if_pos hup, if_pos hc]
    rfl
  · rw [Bool.not_eq_true] at hup
    rw [exec_cellError_of_down (p := .tether) hup, exec_rollCall, if_neg (by simp [hup])]

end

/-- Settles O31: an accepted cell is taken as its kind's own row, and any other is an error of its port. -/
theorem receiptJudgesCells : Obligations.ReceiptJudgesCells := by
  refine ⟨fun s c => ⟨exec_upwardCellReceipt_of_down, fun hup hused hcommand hrollCall => ?_,
      fun hup herror => ?_⟩,
    fun s bytes => ⟨exec_cellError_of_error (p := .tether), exec_cellError_of_error (p := .chain),
      exec_cellError_of_down (p := .tether), exec_cellError_of_down (p := .chain)⟩,
    fun s bytes c => ⟨exec_cellError_chain, exec_cellError_command, exec_cellError_rollCall⟩⟩
  · rw [exec_upwardCellReceipt_of_accepted hup (acceptable_chain_iff.mpr ⟨hused, hcommand, hrollCall⟩)]
    refine ⟨fun hroom => ?_, fun hfull => ?_⟩
    · rw [LinkUnit.forwardUp_of_room hroom]
      rfl
    · rw [LinkUnit.forwardUp_of_full hfull]
      rfl
  · have hrefused : ¬acceptable .chain c = true := by
      rw [acceptable_chain_iff]
      rintro ⟨hused, hcommand, hrollCall⟩
      exact herror.elim (Nat.not_lt_of_le hused) fun h => h.elim hcommand hrollCall
    rw [exec_upwardCellReceipt, State.receiveUpward, if_pos hup, if_neg hrefused]
    rfl

end Sys2Proof.Machine

/-! PROOFS. Ports: symbols received, a port UP and the two ways DOWN with the flush of the down-forward queue,
and the cells a port sends at a boundary. -/

namespace Sys2Proof.Machine

/-! ## The flush of the down-forward queue (R155, R164) -/

/-- A Link Unit that has turned some cells around, discarded a number of others and dropped a number. -/
def LinkUnit.flushed (l : LinkUnit) (turned : List Cell) (discarded dropped : Nat) : LinkUnit :=
  { l with
    management := l.management ++ turned.map (turnAround l)
    counters := { l.counters with
      downForwardDiscards := min 4294967295 (l.counters.downForwardDiscards + discarded)
      replyDropped := min 4294967295 (l.counters.replyDropped + dropped) } }

section
variable {l : LinkUnit} {c : Cell}

theorem LinkUnit.flushCell_turn (hkind : c.kind = .rollCall) (hheld : l.replyPlace = false)
    (hroom : l.management.length < 32) : l.flushCell c = l.placeManagement (turnAround l c) := by
  rw [LinkUnit.flushCell, if_pos hkind, if_pos (LinkUnit.managementFree_of_room hheld hroom)]

theorem LinkUnit.flushCell_drop (hkind : c.kind = .rollCall) (hfull : 32 ≤ l.management.length) :
    l.flushCell c = { l with counters := l.counters.dropReply } := by
  rw [LinkUnit.flushCell, if_pos hkind, if_neg (LinkUnit.managementFree_of_full hfull)]

theorem LinkUnit.flushCell_discard (hkind : c.kind ≠ .rollCall) :
    l.flushCell c = { l with counters := l.counters.downDiscard 1 } :=
  if_neg hkind

theorem LinkUnit.flushed_placeManagement (l : LinkUnit) (c : Cell) (turned : List Cell)
    (discarded dropped : Nat) :
    (l.placeManagement (turnAround l c)).flushed turned discarded dropped
      = l.flushed (c :: turned) discarded dropped := by
  simp only [LinkUnit.flushed, LinkUnit.placeManagement, List.map_cons, List.append_assoc,
    List.singleton_append]
  rfl

/-- Counting on in two goes stops at the same top (R171). -/
theorem min_min_add (top x m n : Nat) : min top (min top (x + m) + n) = min top (x + (n + m)) := by
  omega

theorem LinkUnit.flushed_dropReply (l : LinkUnit) (turned : List Cell) (discarded dropped : Nat) :
    ({ l with counters := l.counters.dropReply } : LinkUnit).flushed turned discarded dropped
      = l.flushed turned discarded (dropped + 1) := by
  simp only [LinkUnit.flushed, ← min_min_add]
  rfl

theorem LinkUnit.flushed_downDiscard (l : LinkUnit) (turned : List Cell) (discarded dropped : Nat) :
    ({ l with counters := l.counters.downDiscard 1 } : LinkUnit).flushed turned discarded dropped
      = l.flushed turned (discarded + 1) dropped := by
  simp only [LinkUnit.flushed, ← min_min_add]
  rfl

/-- The flush, one cell after the other: ROLL CALLs are turned around while places are free (R155, R164). -/
theorem LinkUnit.foldl_flushCell (hheld : l.replyPlace = false)
    (hdiscards : l.counters.downForwardDiscards ≤ 4294967295)
    (hdropped : l.counters.replyDropped ≤ 4294967295) (cells : List Cell) :
    let rolls := cells.filter (·.kind = .rollCall)
    let free := 32 - l.management.length
    cells.foldl LinkUnit.flushCell l
      = l.flushed (rolls.take free) (cells.length - rolls.length) (rolls.length - free) := by
  induction cells generalizing l with
  | nil => simp [LinkUnit.flushed, Nat.min_eq_right hdiscards, Nat.min_eq_right hdropped]
  | cons c rest ih =>
    have hfewer := List.length_filter_le (fun c : Cell => decide (c.kind = .rollCall)) rest
    simp only [List.foldl_cons]
    by_cases hkind : c.kind = .rollCall
    · rw [List.filter_cons_of_pos (by simpa using hkind)]
      by_cases hroom : l.management.length < 32
      · obtain ⟨free, hfree⟩ : ∃ free, 32 - l.management.length = free + 1 :=
          ⟨31 - l.management.length, by omega⟩
        have hleft : 32 - (l.placeManagement (turnAround l c)).management.length = free := by
          simp only [LinkUnit.placeManagement, List.length_append, List.length_singleton]
          omega
        rw [LinkUnit.flushCell_turn hkind hheld hroom,
          ih (l := l.placeManagement (turnAround l c)) hheld hdiscards hdropped, hleft, hfree,
          LinkUnit.flushed_placeManagement]
        simp only [List.take_succ_cons, List.length_cons, Nat.add_sub_add_right]
      · have hnone : 32 - l.management.length = 0 := by omega
        rw [LinkUnit.flushCell_drop hkind (Nat.le_of_not_lt hroom),
          ih (l := { l with counters := l.counters.dropReply }) hheld hdiscards (bump_le ..), hnone,
          LinkUnit.flushed_dropReply]
        simp only [List.take_zero, List.length_cons, Nat.add_sub_add_right, Nat.sub_zero]
    · rw [List.filter_cons_of_neg (by simpa using hkind), LinkUnit.flushCell_discard hkind,
        ih (l := { l with counters := l.counters.downDiscard 1 }) hheld (bump_le ..) hdropped,
        LinkUnit.flushed_downDiscard, List.length_cons, Nat.sub_add_comm hfewer]

end

/-! ## Symbols and ports (R148, R150) -/

section
variable {s : State} {p : PortId}

theorem State.receiveSymbol_of_up (h : (s.link.port p).up = true) (hold : Bool) :
    s.receiveSymbol p hold
      = s.setLink (s.link.setPort p { s.link.port p with holdReceived := hold }) :=
  if_pos h

theorem State.receiveSymbol_of_down (h : (s.link.port p).up = false) (hold : Bool) :
    s.receiveSymbol p hold = s :=
  if_neg (by simp [h])

theorem exec_portUp : exec (.portUp p) s = .next (
    if (s.link.port p).up then s
    else (s.setLink (s.link.setPort p (s.link.port p).trained)).latch [.link]) := rfl

theorem State.portDown_of_up (h : (s.link.port p).up = true) (midCell : Bool) :
    s.portDown p midCell = (s.setLink (s.link.portLost p midCell)).latch [.link] :=
  if_pos h

theorem State.portDown_of_down (h : (s.link.port p).up = false) (midCell : Bool) :
    s.portDown p midCell = s :=
  if_neg (by simp [h])

/-- The two ways DOWN have one effect (R148). -/
theorem exec_port_lost (midCell : Bool) {t : State} (h : s.portDown p midCell = t) :
    exec (.portLockLoss p midCell) s = .next t ∧ exec (.portSymbolTimeout p midCell) s = .next t :=
  ⟨congrArg _ h, congrArg _ h⟩

end

/-- A tether port DOWN, with the cell cut short counted (R148, R149). -/
theorem LinkUnit.portLost_tether (l : LinkUnit) (midCell : Bool) :
    l.portLost .tether midCell = { l with
      tether := { l.tether with up := false, holdReceived := false, sending := none, lastSymbol := none }
      counters := { l.counters with
        tetherCellErrors := if midCell then min 4294967295 (l.counters.tetherCellErrors + 1)
          else l.counters.tetherCellErrors } } := by
  cases midCell <;> rfl

/-- A chain port DOWN, with the cell cut short counted and the down-forward queue flushed (R148, R155). -/
theorem LinkUnit.portLost_chain {l : LinkUnit} (hheld : l.replyPlace = false)
    (hdiscards : l.counters.downForwardDiscards ≤ 4294967295)
    (hdropped : l.counters.replyDropped ≤ 4294967295) (midCell : Bool) :
    let rolls := l.downForward.filter (·.kind = .rollCall)
    let free := 32 - l.management.length
    l.portLost .chain midCell = { l with
      chain := { l.chain with up := false, holdReceived := false, sending := none, lastSymbol := none }
      tether := l.tether.ask false
      downForward := []
      management := l.management ++ (rolls.take free).map fun c =>
        { c with kind := .rollCallReply, source := BitVec.ofNat 4 (l.position.getD 0), dest := 0 }
      counters := { l.counters with
        chainCellErrors := if midCell then min 4294967295 (l.counters.chainCellErrors + 1)
          else l.counters.chainCellErrors
        downForwardDiscards := min 4294967295
          (l.counters.downForwardDiscards + (l.downForward.length - rolls.length))
        replyDropped := min 4294967295 (l.counters.replyDropped + (rolls.length - free)) } } := by
  intro rolls free
  have hflushed (d : Counters) (hd : d.downForwardDiscards ≤ 4294967295)
      (hr : d.replyDropped ≤ 4294967295) :=
    LinkUnit.foldl_flushCell (l := { l with
      chain := l.chain.lost, downForward := [], counters := d }) hheld hd hr l.downForward
  have hlost (d : Counters) : ({ l with chain := l.chain.lost, counters := d } : LinkUnit).flushDown
      = { l.downForward.foldl LinkUnit.flushCell
            { l with chain := l.chain.lost, downForward := [], counters := d } with
          tether := (l.downForward.foldl LinkUnit.flushCell
            { l with chain := l.chain.lost, downForward := [], counters := d }).tether.ask false } := rfl
  refine (hlost (l.counters.cutShort .chain midCell)).trans ?_
  cases midCell
  · rw [hflushed (l.counters.cutShort .chain false) hdiscards hdropped]
    rfl
  · rw [hflushed (l.counters.cutShort .chain true) hdiscards hdropped]
    rfl

/-- Settles O32: a symbol or a loss acts on an UP port alone, and the chain port's loss flushes the cells that
wait for it one after the other. -/
theorem portsAndSymbols : Obligations.PortsAndSymbols := by
  refine ⟨fun p h => rfl, fun s p => ⟨fun hdown => ?_, fun hup => ?_⟩, ?tether, ?chain⟩
  · refine ⟨congrArg _ (State.receiveSymbol_of_down hdown true),
      congrArg _ (State.receiveSymbol_of_down hdown false), ?_,
      fun m => exec_port_lost m (State.portDown_of_down hdown m)⟩
    rw [exec_portUp, if_neg (by simp [hdown])]
    rfl
  · refine ⟨congrArg _ (State.receiveSymbol_of_up hup true),
      congrArg _ (State.receiveSymbol_of_up hup false), ?_⟩
    rw [exec_portUp, if_pos hup]
  case tether =>
    intro s m hup t
    have hlost : s.portDown .tether m = t.latch [.link] := by
      rw [State.portDown_of_up (p := .tether) hup, LinkUnit.portLost_tether]
      rfl
    obtain ⟨hlock, htimeout⟩ := exec_port_lost m hlost
    exact ⟨hlock, htimeout, State.latch_reported _ (List.mem_singleton_self _)⟩
  case chain =>
    intro s m hup hheld hcounters rolls free t
    have hbounded := (Counters.bounded_iff _).mp hcounters
    have hlost : s.portDown .chain m = t.latch [.link] := by
      rw [State.portDown_of_up (p := .chain) hup,
        LinkUnit.portLost_chain hheld (by simp [hbounded]) (by simp [hbounded])]
      rfl
    obtain ⟨hlock, htimeout⟩ := exec_port_lost m hlost
    exact ⟨hlock, htimeout, State.latch_reported _ (List.mem_singleton_self _)⟩

/-! ## Sending (R157, R158) -/

section
variable {s : State} {c : Cell} {rest : List Cell}

theorem Port.maySend_iff (p : Port) : p.maySend = true ↔ p.up = true ∧ p.holdReceived = false := by
  simp [Port.maySend]

theorem exec_tetherArbiterChoice : exec .tetherArbiterChoice s = .next (
    if s.link.tether.maySend then
      match s.link.management with
      | c :: rest => s.chooseManagement c rest
      | [] => s.chooseVideo
    else s.setLink (s.link.beginTether none)) := rfl

theorem exec_chainOutboundSend : exec .chainOutboundSend s = .next (
    if s.link.chain.maySend then
      match s.link.downForward with
      | c :: rest =>
        s.setLink ({ s.link with downForward := rest } |>.beginChain (some c)).judgeDownHold
      | [] => s.setLink (s.link.beginChain none)
    else s.setLink (s.link.beginChain none)) := rfl

theorem exec_tetherArbiterChoice_management (hmay : s.link.tether.maySend = true)
    (hqueue : s.link.management = c :: rest) :
    exec .tetherArbiterChoice s = .next (s.chooseManagement c rest) := by
  rw [exec_tetherArbiterChoice, if_pos hmay, hqueue]

theorem exec_tetherArbiterChoice_video (hmay : s.link.tether.maySend = true)
    (hqueue : s.link.management = []) : exec .tetherArbiterChoice s = .next s.chooseVideo := by
  rw [exec_tetherArbiterChoice, if_pos hmay, hqueue]

theorem State.chooseVideo_own (hqueue : s.link.ownVideo = c :: rest)
    (hturn : s.link.turn = .ownVideo ∨ s.link.upForward = []) :
    s.chooseVideo = s.chooseOwn c rest := by
  unfold State.chooseVideo
  cases ht : s.link.turn with
  | ownVideo => simp only [hqueue]
  | upForward => simp only [hqueue, hturn.resolve_left (by simp [ht])]

theorem State.chooseVideo_forwarded (hqueue : s.link.upForward = c :: rest)
    (hturn : s.link.turn = .upForward ∨ s.link.ownVideo = []) :
    s.chooseVideo = s.chooseForwarded c rest := by
  unfold State.chooseVideo
  cases ht : s.link.turn with
  | upForward => simp only [hqueue]
  | ownVideo => simp only [hqueue, hturn.resolve_left (by simp [ht])]

theorem State.chooseVideo_nothing (hown : s.link.ownVideo = []) (hup : s.link.upForward = []) :
    s.chooseVideo = s.setLink (s.link.beginTether none) := by
  unfold State.chooseVideo
  cases s.link.turn <;> simp only [hown, hup]

/-- A stall ends when the places of the item are free (R27). -/
theorem State.endStall_eq (s : State) : s.endStall = s.setEngine (
    match s.engine.run with
    | none => s.engine
    | some r =>
      if r.stalled = true ∧ s.link.ownVideo.length + s.engine.reserved + r.places ≤ 192 then
        { s.engine with run := some { r with stalled := false }, reserved := r.places }
      else s.engine) := by
  unfold State.endStall
  cases s.engine.run with
  | none => rfl
  | some r =>
    simp only [Bool.and_eq_true, State.roomFor_iff]
    split <;> rfl

/-- HOLD sent of the chain port as the up-forward queue falls (R156). -/
theorem LinkUnit.judgeUpHold_eq (l : LinkUnit) : l.judgeUpHold = { l with
    chain := if 96 ≤ l.upForward.length then l.chain.ask true
      else if l.upForward.length ≤ 64 then l.chain.ask false else l.chain } := by
  unfold LinkUnit.judgeUpHold Config.upHoldAt Config.upGoAt
  split
  · rfl
  · split <;> rfl

/-- HOLD sent of the tether port as the down-forward queue falls (R154). -/
theorem LinkUnit.judgeDownHold_eq (l : LinkUnit) : l.judgeDownHold = { l with
    tether := if 12 ≤ l.downForward.length then l.tether.ask true
      else if l.downForward.length ≤ 8 then l.tether.ask false else l.tether } := by
  unfold LinkUnit.judgeDownHold Config.downHoldAt Config.downGoAt
  split
  · rfl
  · split <;> rfl

end

/-- Settles O33: the management queue comes first, then the video queue that has the turn or stands alone. -/
theorem portsSendInOrder : Obligations.PortsSendInOrder := by
  intro s tether chain may nothing own forwarded
  refine ⟨fun hmay => ?_, fun hmay => ⟨fun c rest hqueue => ⟨fun howed => ?_, fun howed => ?_⟩,
    fun hempty => ⟨fun c rest hqueue hturn => ?_, fun c rest hqueue hturn => ?_, fun hown hup => ?_⟩⟩,
    fun hnone => ?_, fun c rest hmay hqueue => ?_⟩
  · rw [exec_tetherArbiterChoice, if_neg (mt (Port.maySend_iff _).mp hmay)]
    rfl
  · rw [exec_tetherArbiterChoice_management ((Port.maySend_iff _).mpr hmay) hqueue]
    exact congrArg _ (if_neg (by simp [LinkUnit.beginTether, howed]))
  · rw [exec_tetherArbiterChoice_management ((Port.maySend_iff _).mpr hmay) hqueue]
    exact congrArg _ (if_pos howed)
  · have hchosen := (State.chooseVideo_own hqueue hturn).trans (State.endStall_eq _)
    exact (exec_tetherArbiterChoice_video ((Port.maySend_iff _).mpr hmay) hempty).trans
      (congrArg _ hchosen)
  · have hchosen := State.chooseVideo_forwarded hqueue hturn
    rw [State.chooseForwarded, LinkUnit.judgeUpHold_eq] at hchosen
    exact (exec_tetherArbiterChoice_video ((Port.maySend_iff _).mpr hmay) hempty).trans
      (congrArg _ hchosen)
  · rw [exec_tetherArbiterChoice_video ((Port.maySend_iff _).mpr hmay) hempty,
      State.chooseVideo_nothing hown hup]
    rfl
  · rw [exec_chainOutboundSend]
    split
    · rename_i hmay
      rw [hnone.resolve_left (not_not.mpr ((Port.maySend_iff _).mp hmay))]
      rfl
    · rfl
  · rw [exec_chainOutboundSend, if_pos ((Port.maySend_iff _).mpr hmay), hqueue]
    simp only [LinkUnit.judgeDownHold_eq]
    rfl

end Sys2Proof.Machine

/-! PROOFS. Steps and the reset state: a step runs the command at the front, every command and event has a
next state, and the state a power-on reset leaves meets every invariant. -/

namespace Sys2Proof.Machine

/-! ## Steps (R167) -/

/-- Settles O1: on a queue that is not empty the step is the dispatch of its front. -/
theorem stepTakesFrontCommand : Obligations.StepTakesFrontCommand :=
  fun _ _ _ => rfl

/-- Every command and event is carried out. -/
theorem exec_answers (i : Instr) (s : State) : ∃ t, exec i s = .next t :=
  (exec_runs i s).imp fun _ h => h.1

/-- Settles O3: an idle step is one tick, and any other step carries out the command at the front. -/
theorem everyStepAnswersNext : Obligations.EveryStepAnswersNext := by
  refine ⟨exec_answers, fun s => ?_⟩
  cases hp : s.pending with
  | nil => exact ⟨s.tick, by rw [step, hp]⟩
  | cons c rest =>
    rw [step, hp]
    exact exec_answers c _

/-! ## The reset state (R177) -/

/-- A die at 0 degrees is judged as Lamp Protection's reset values are (R137, R144). -/
theorem LampProtection.firstSampled_zero : LampProtection.firstSampled 0 = LampProtection.reset := by
  decide

/-- A die at 0 degrees adds no event to RESET NOTICE. -/
theorem eventMarks_resetEvents_zero : eventMarks (resetEvents 0) = LinkUnit.reset.latches := by
  decide

/-- With nothing queued and no free choice used, a reset at phases (0, 0) and 0 degrees leaves State.reset. -/
theorem State.afterReset_cold {s : State} (hp : s.pending = []) (hfree : s.freeIndex = 0) :
    s.afterReset false false 0 = State.reset := by
  rw [State.afterReset_eq, hp, hfree, LampProtection.firstSampled_zero, eventMarks_resetEvents_zero]
  rfl

theorem State.reset_queuesBounded : State.reset.QueuesBounded := by
  unfold State.QueuesBounded
  decide

/-- A READY sequencer with a released trigger line, no survey and no trigger waiting (R83, R107). -/
theorem State.reset_sequencerSound : State.reset.SequencerSound := by
  unfold State.SequencerSound
  decide

/-- Settles O5: each invariant holds at the reset values of the block it speaks of. -/
theorem resetStateKeepsInvariants : Obligations.ResetStateKeepsInvariants := by
  obtain ⟨hranges, hguard⟩ := State.reset.ranged_iff.mp State.reset_ranged
  obtain ⟨hparams, hduties⟩ := State.reset.driven_iff.mp State.reset_driven
  refine ⟨fun s hp hfree => congrArg _ (State.afterReset_cold hp hfree), State.reset_queuesBounded,
    ?defects, ?survey, State.reset.banksSound_iff.mpr ViewBankStore.Sound.reset, ?slots,
    State.reset_sequencerSound, hduties, hparams, hguard, hranges⟩
  case defects => exact State.defectsSound_of_no_edits rfl .nil (Nat.zero_le _)
  case survey => exact State.surveySound_of_not_collecting rfl
  case slots => exact State.slotsSound_of_reset rfl rfl (by simp [State.reset, SensorIntake.reset])

end Sys2Proof.Machine

/-! PROOFS. Commands answered: the REPLY cell byte by byte, a command dropped for want of a place, and the
READ items. -/

namespace Sys2Proof.Machine

/-! ## Payloads (R146) -/

/-- A payload holds its content. -/
theorem getElem?_padPayload_of_lt {bytes : List Byte} {k : Nat} (h : k < bytes.length) :
    (padPayload bytes)[k]? = bytes[k]? :=
  List.getElem?_append_left h

/-- A payload holds zeros beyond its content. -/
theorem getElem?_padPayload_of_le {bytes : List Byte} {k : Nat} (h : bytes.length ≤ k) (hk : k < 64) :
    (padPayload bytes)[k]? = some 0 := by
  rw [padPayload, List.getElem?_append_right h, List.getElem?_replicate, if_pos (by omega)]

/-! ## The REPLY cell (R167, TABLE 8-4) -/

/-- The bits of a summary byte (TABLE 8-4, byte 2). -/
theorem summaryByte_bits (fault notice checking : Bool) (t : Thermal) :
    let x := byteOf (bit fault + 2 * thermalCode t + 8 * bit notice + 16 * bit checking);
    x.getLsbD 0 = fault ∧ (x.extractLsb' 1 2).toNat = thermalCode t ∧ x.getLsbD 3 = notice
      ∧ x.getLsbD 4 = checking ∧ x.extractLsb' 5 3 = 0 := by
  cases t <;> revert fault notice checking <;> decide

theorem LampProtection.anyFault_iff (g : LampProtection) :
    g.anyFault = true ↔ ∃ i, (g.segments.get i).faulted = true :=
  Eight.any_iff ..

theorem ViewBankStore.anyChecking_iff (v : ViewBankStore) :
    v.anyChecking = true ↔ ∃ b, (v.get b).state = .checking := by
  rw [anyChecking, Bool.or_eq_true, decide_eq_true_iff, decide_eq_true_iff]
  exact ⟨fun h => h.elim (⟨.bank0, ·⟩) (⟨.bank1, ·⟩), fun ⟨b, hb⟩ => by cases b <;> simp_all [get]⟩

/-- The bytes of a REPLY up to its used length: command number, code, summary, content. -/
def replyBytes (s : State) (number : Byte) (a : Answer) : List Byte :=
  number :: byteOf (replyCode a.code) :: s.summary :: a.content

theorem length_replyBytes (s : State) (number : Byte) (a : Answer) :
    (replyBytes s number a).length = 3 + a.content.length := by
  simp only [replyBytes, List.length_cons]
  omega

theorem replyCell_payload (s : State) (tag number : Byte) (a : Answer) :
    (replyCell s tag number a).payload = padPayload (replyBytes s number a) := rfl

theorem replyCell_used (s : State) (tag number : Byte) (a : Answer) :
    (replyCell s tag number a).used = byteOf (replyBytes s number a).length := rfl

/-! ## Numbered commands (R167) -/

/-- A numbered command has an owner. -/
theorem ownerOf_of_numbered {c : Instr} (h : (numbered c).isSome = true) :
    ∃ number owner, ownerOf c = some (number, owner) := by
  unfold numbered at h
  split at h
  · exact ⟨_, _, ‹_›⟩
  all_goals cases h

/-- Settles O6: the payload is the REPLY's bytes filled up with zeros; a numbered command is consumed, and
without a place consuming only counts. -/
theorem commandsAreAnsweredOrDropped : Obligations.CommandsAreAnsweredOrDropped := by
  refine ⟨fun s tag number a hfits => ?_, fun c s hnumbered hfull => ?_⟩
  · intro cell
    have hlength := length_replyBytes s number a
    obtain ⟨hfault, hthermal, hnotice, hchecking, hrest⟩ := summaryByte_bits s.guard.anyFault
      s.link.resetNotice s.views.anyChecking s.guard.thermal
    refine ⟨rfl, rfl, rfl, rfl, ?used, ?length, rfl, rfl, rfl, ?fault, hthermal, hnotice, ?checking,
      hrest, fun k hk => ?content, fun k hk hk' => ?zeros⟩
    case used =>
      rw [replyCell_used, byteOf, BitVec.toNat_ofNat, hlength, Nat.mod_eq_of_lt (by omega)]
    case length => exact length_padPayload (bytes := replyBytes s number a) (by omega)
    case fault => exact (Bool.eq_iff_iff.mp hfault).trans s.guard.anyFault_iff
    case checking => exact (Bool.eq_iff_iff.mp hchecking).trans s.views.anyChecking_iff
    case content =>
      rw [replyCell_payload, getElem?_padPayload_of_lt (by omega), Nat.add_comm]
      rfl
    case zeros => rw [replyCell_payload, getElem?_padPayload_of_le (by omega) hk']
  · obtain ⟨number, owner, howner⟩ := ownerOf_of_numbered hnumbered
    obtain ⟨tag, hexec⟩ := exec_of_ownerOf howner s
    rw [hexec, consume_of_full (Bool.eq_false_iff.mpr (LinkUnit.managementFree_of_full hfull))]
    rfl

/-! ## READ (R169, TABLE 8-9) -/

section
variable {s : State} {tag : Byte}

/-- ZONE STATS of a segment answers its content (R169 case d). -/
theorem zoneStatsAnswer_of_segment {segment : Byte} {i : Fin 8} (h : segment.toNat = i.val) :
    zoneStatsAnswer s segment = { code := .done, content := 4 :: zoneStatsContent s i } := by
  rw [zoneStatsAnswer, segmentOf_of_eq h]
  rfl

theorem zoneStatsAnswer_of_no_segment {segment : Byte} (h : 8 ≤ segment.toNat) :
    zoneStatsAnswer s segment = .bare .badValue := by
  rw [zoneStatsAnswer, segmentOf_of_eight_le h]

/-- A parameter other than DUTY answers its value, LED CYCLE with the pending one (R169 case h). -/
theorem parameterAnswer_of_value {identifier segment : Byte} {v : Nat} (hduty : identifier ≠ 14)
    (h : parameterValue s identifier.toNat = some v) :
    parameterAnswer s identifier segment =
      { code := .done
        content := [8, identifier, 0] ++ bigEndian 4 v
          ++ (if identifier = 13 then
                match s.lamps.pendingCycle with
                | some n => [1, BitVec.ofNat 8 n]
                | none => [0, 0]
              else [0, 0]) } := by
  rw [parameterAnswer, if_neg hduty, h]
  by_cases hcycle : identifier = 13
  · rw [if_pos hcycle, if_pos hcycle]
    cases s.lamps.pendingCycle <;> rfl
  · rw [if_neg hcycle, if_neg hcycle]
    rfl

/-- DUTY answers the staged duty of the segment (R169 case h). -/
theorem parameterAnswer_duty {segment : Byte} {i : Fin 8} (h : segment.toNat = i.val) :
    parameterAnswer s 14 segment =
      { code := .done
        content := [8, 14, segment] ++ bigEndian 4 (s.lamps.segments.get i).staged ++ [0, 0] } := by
  rw [parameterAnswer, if_pos rfl, segmentOf_of_eq h]
  rfl

theorem parameterAnswer_duty_of_no_segment {segment : Byte} (h : 8 ≤ segment.toNat) :
    parameterAnswer s 14 segment = .bare .badValue := by
  rw [parameterAnswer, if_pos rfl, segmentOf_of_eight_le h]

/-- Beyond the 24 identifiers of TABLE 10-3 there is no value. -/
theorem parameterValue_of_lt {n : Nat} (h : 24 < n) : parameterValue s n = none := by
  obtain ⟨k, rfl⟩ := Nat.exists_eq_add_of_le' h
  rfl

theorem parameterAnswer_of_unknown {identifier segment : Byte}
    (h : identifier = 0 ∨ 24 < identifier.toNat) :
    parameterAnswer s identifier segment = .bare .noSuchItem := by
  have hnone : parameterValue s identifier.toNat = none := by
    rcases h with rfl | h
    · rfl
    · exact parameterValue_of_lt h
  rw [parameterAnswer, if_neg (by rintro rfl; simp at h), hnone]

end

/-- Settles O7: the owner of a READ answers from the state and hands it back as it was. -/
theorem readsAnswerAndChangeNothing : Obligations.ReadsAnswerAndChangeNothing := by
  intro s tag hplace
  have hreads {owner : State → Answer × State} {a : Answer}
      (ho : owner s.holdReplyPlace = (a, s.holdReplyPlace)) :
      (Host.Outcome.next (consume tag 1 owner s) : Host.Outcome State Fault Refusal)
        = .next (s.placeReply tag 1 a) := congrArg _ (consume_of_unchanged hplace ho)
  refine ⟨hreads rfl, hreads rfl, hreads rfl, fun segment => ⟨fun i hi => hreads ?_, fun hlarge => hreads ?_⟩,
    hreads rfl, hreads rfl, fun start => hreads rfl, fun identifier segment v hduty hvalue => hreads ?_,
    fun segment => ⟨fun i hi => hreads ?_, fun hlarge => hreads ?_⟩,
    fun identifier segment hunknown => hreads ?_, hreads rfl, hreads rfl⟩
  · exact congrArg (·, _) (zoneStatsAnswer_of_segment hi)
  · exact congrArg (·, _) (zoneStatsAnswer_of_no_segment hlarge)
  · exact congrArg (·, _) (parameterAnswer_of_value hduty hvalue)
  · exact congrArg (·, _) (parameterAnswer_duty hi)
  · exact congrArg (·, _) (parameterAnswer_duty_of_no_segment hlarge)
  · exact congrArg (·, _) (parameterAnswer_of_unknown hunknown)

end Sys2Proof.Machine

/-! PROOFS. SET: what a numeric value is brought to, the numeric parameters whose effect comes later, and the
choices of the enumerated ones. -/

namespace Sys2Proof.Machine

/-! ## Values taken (R170) -/

/-- Within a range that starts on a step, the value taken is the greatest step not above the clamped value. -/
theorem takeValue_spec {lo hi step : Nat} (v : Nat) (hstep : 0 < step) (hrange : lo ≤ hi)
    (hlo : lo % step = 0) :
    lo ≤ takeValue lo hi step v ∧ takeValue lo hi step v ≤ hi ∧ takeValue lo hi step v % step = 0
      ∧ takeValue lo hi step v ≤ max lo (min hi v) ∧ max lo (min hi v) < takeValue lo hi step v + step := by
  obtain ⟨hlow, hhigh⟩ := takeValue_bounds hrange step v
  have hround : max lo (min hi v) / step * step ≤ max lo (min hi v) := Nat.div_mul_le_self ..
  refine ⟨hlow, hhigh, takeValue_mod hlo hi v, ?_, ?_⟩
  · exact max_le (le_max_left ..) hround
  · have hnext := Nat.lt_div_mul_add (a := max lo (min hi v)) hstep
    exact hnext.trans_le (Nat.add_le_add_right (le_max_right ..) _)

/-! ## Numeric parameters (R170) -/

/-- A numeric SET with a place free, whatever its step: the value taken is stored, then answered. -/
theorem consume_setNumber_stepped {s : State} {lo hi step : Nat} {v : Word} (h : s.PlaceFree)
    (tag identifier : Byte) (store : State → Nat → State) :
    consume tag 2 (fun u => setNumber identifier v lo hi step (store u)) s =
      (store s.holdReplyPlace (takeValue lo hi step v.toNat)).placeReply tag 2
        { code := if takeValue lo hi step v.toNat = v.toNat then .done else .clamped
          content := [identifier, 0] ++ bigEndian 4 (takeValue lo hi step v.toNat) } :=
  consume_of_placeFree h

/-- Settles O9: each SET stores its value taken in its own parameter; only the sizes have a step above 1. -/
theorem setClampsAndStoresNumbers : Obligations.SetClampsAndStoresNumbers := by
  refine ⟨⟨fun lo hi step v => takeValue_spec v, rfl, rfl⟩, ?_⟩
  intro s tag v hplace stored
  refine ⟨?width, ?height, ?black, ?dark, ?exposure, ?blur, ?target, ?band, ?beta, ?holdoff⟩
  case width => exact congrArg _ (consume_setNumber_stepped hplace tag 1 _)
  case height => exact congrArg _ (consume_setNumber_stepped hplace tag 2 _)
  case black => exact congrArg _ (consume_setNumber hplace (Nat.zero_max _) tag 3 _)
  case dark => exact congrArg _ (consume_setNumber hplace rfl tag 4 _)
  case exposure => exact congrArg _ (consume_setNumber hplace rfl tag 5 _)
  case blur => exact congrArg _ (consume_setNumber hplace (Nat.zero_max _) tag 6 _)
  case target => exact congrArg _ (consume_setNumber hplace rfl tag 15 _)
  case band => exact congrArg _ (consume_setNumber hplace rfl tag 16 _)
  case beta => exact congrArg _ (consume_setNumber hplace rfl tag 17 _)
  case holdoff => exact congrArg _ (consume_setNumber hplace (Nat.zero_max _) tag 18 _)

/-! ## Enumerated parameters (R170) -/

/-- The value of a SET spells `n` exactly when it is the word that does. -/
theorem toNat_eq_iff (v w : Word) (n : Nat) (hw : w.toNat = n) : v.toNat = n ↔ v = w := by
  rw [← hw, BitVec.toNat_inj]

/-- A coding of two choices: 0 names the one, 1 the other, and no more (section 8.8). -/
def CodesTwo {α : Type} (choice : Nat → Option α) (x y : α) : Prop :=
  ∀ n, choice n = if n = 0 then some x else if n = 1 then some y else none

theorem autoRetuneOf_codes : CodesTwo autoRetuneOf false true
  | 0 | 1 | _ + 2 => rfl

theorem faultResponseOf_codes : CodesTwo faultResponseOf .off .keep
  | 0 | 1 | _ + 2 => rfl

theorem alertReportOf_codes : CodesTwo alertReportOf .alert .statusOnly
  | 0 | 1 | _ + 2 => rfl

theorem reportModeOf_eq (n : Nat) : reportModeOf n =
    if n = 0 then some .everyFrame else if n = 1 then some .onEvent
    else if n = 2 then some .whileTravelling else none :=
  match n with
  | 0 | 1 | 2 | _ + 3 => rfl

section
variable {α : Type} {s : State} {v : Word}

/-- A SET of an enumerated parameter stores the choice its value names and answers DONE with the value, or
stores nothing and answers BAD VALUE. -/
theorem consume_setChoice (h : s.PlaceFree) (tag identifier : Byte) (choice : Nat → Option α)
    (store : State → α → State) :
    consume tag 2 (fun u => setChoice identifier v choice (store u) u) s =
      (choice v.toNat).elim (s.placeReply tag 2 { code := .badValue, content := [] }) fun x =>
        (store s.holdReplyPlace x).placeReply tag 2
          { code := .done, content := [identifier, 0] ++ bigEndian 4 v.toNat } := by
  rw [consume_of_placeFree h, setChoice]
  cases choice v.toNat <;> rfl

/-- Of two choices 0 stores the one and 1 the other; any other value is a BAD VALUE. -/
theorem next_setChoice_two {x y : α} {choice : Nat → Option α} (h : s.PlaceFree)
    (hcodes : CodesTwo choice x y) (tag identifier : Byte) (store : State → α → State) :
    (Host.Outcome.next (consume tag 2 (fun u => setChoice identifier v choice (store u) u) s) :
        Host.Outcome State Fault Refusal) =
      if v = 0 then .next ((store s.holdReplyPlace x).placeReply tag 2
        { code := .done, content := [identifier, 0] ++ bigEndian 4 v.toNat })
      else if v = 1 then .next ((store s.holdReplyPlace y).placeReply tag 2
        { code := .done, content := [identifier, 0] ++ bigEndian 4 v.toNat })
      else .next (s.placeReply tag 2 { code := .badValue, content := [] }) := by
  rw [consume_setChoice h, hcodes]
  simp only [toNat_eq_iff v 0 0 rfl, toNat_eq_iff v 1 1 rfl]
  split_ifs <;> rfl

/-- Of the three report modes 0, 1 and 2 store one each; any other value is a BAD VALUE (R174). -/
theorem exec_setReportMode (h : s.PlaceFree) (tag : Byte) :
    exec (.setReportMode tag v) s =
      if v = 0 then .next (({ s with params := { s.params with reportMode := .everyFrame } } :
        State).placeReply tag 2 { code := .done, content := [23, 0] ++ bigEndian 4 v.toNat })
      else if v = 1 then .next (({ s with params := { s.params with reportMode := .onEvent } } :
        State).placeReply tag 2 { code := .done, content := [23, 0] ++ bigEndian 4 v.toNat })
      else if v = 2 then .next (({ s with params := { s.params with reportMode := .whileTravelling } } :
        State).placeReply tag 2 { code := .done, content := [23, 0] ++ bigEndian 4 v.toNat })
      else .next (s.placeReply tag 2 { code := .badValue, content := [] }) := by
  refine (congrArg _ (consume_setChoice h tag 23 reportModeOf fun u x =>
    u.setParams { u.params with reportMode := x })).trans ?_
  rw [reportModeOf_eq]
  simp only [toNat_eq_iff v 0 0 rfl, toNat_eq_iff v 1 1 rfl, toNat_eq_iff v 2 2 rfl]
  split_ifs <;> rfl

end

/-- Settles O10: the codes of each parameter's choices decide what is stored; ALERT is judged as it is. -/
theorem setStoresChoices : Obligations.SetStoresChoices := by
  intro s tag v hplace taken bad judged
  refine ⟨?retune, ?response, ?faultReport, ?thermalReport, exec_setReportMode hplace tag, ?mask⟩
  case retune =>
    exact next_setChoice_two hplace autoRetuneOf_codes tag 19 fun u x =>
      u.setParams { u.params with autoRetune := x }
  case response =>
    exact next_setChoice_two hplace faultResponseOf_codes tag 20 fun u x =>
      u.setParams { u.params with ledFaultResponse := x }
  case faultReport =>
    exact next_setChoice_two hplace alertReportOf_codes tag 21 fun u x =>
      u.setParamsJudged { u.params with ledFaultReport := x }
  case thermalReport =>
    exact next_setChoice_two hplace alertReportOf_codes tag 22 fun u x =>
      u.setParamsJudged { u.params with thermalReport := x }
  case mask =>
    have hmask : (v.setWidth 15).toNat = v.toNat % 32768 := BitVec.toNat_setWidth ..
    rw [← hmask]
    exact congrArg _ (consume_of_placeFree hplace)

end Sys2Proof.Machine

/-! PROOFS. Events and STATUS cells: when a latched event calls for a STATUS cell, what an occasion does, and
the STATUS content byte by byte. -/

namespace Sys2Proof.Machine

/-! ## The events that call for a STATUS cell (R172, R174) -/

theorem eventMarks_singleton (k : EventKind) : eventMarks [k] = k.mark :=
  BitVec.or_zero

theorem EventKind.mark_eq_twoPow (k : EventKind) : k.mark = BitVec.twoPow 15 k.index := by
  cases k <;> rfl

/-- The mark of a kind meets a mask exactly when the mask enables the kind. -/
theorem EventKind.mark_and_ne_zero_iff (k : EventKind) (mask : BitVec 15) :
    k.mark &&& mask ≠ 0 ↔ mask.getLsbD k.index = true := by
  have hmark : k.mark ≠ 0 := by cases k <;> decide
  rw [EventKind.mark_eq_twoPow] at hmark ⊢
  rw [BitVec.twoPow_and]
  split <;> simp_all

/-- The occasions are those of ON EVENT under that mode, and outside TRAVEL under WHILE TRAVELLING. -/
theorem State.reportsOnEvent_iff (s : State) :
    s.reportsOnEvent = true ↔
      s.effectiveMode = .onEvent ∨ (s.effectiveMode = .whileTravelling ∧ s.position.mode ≠ .travel) := by
  unfold State.reportsOnEvent
  cases s.effectiveMode <;> simp

/-- What it takes for one latched event to call for a STATUS cell at once (R174 case b). -/
theorem latchingCalls_singleton_iff (s : State) (k : EventKind) :
    latchingCalls s [k] = true ↔
      s.engine.run = none
        ∧ (s.effectiveMode = .onEvent
          ∨ (s.effectiveMode = .whileTravelling ∧ s.position.mode ≠ .travel))
        ∧ s.params.eventMask.getLsbD k.index = true := by
  rw [latchingCalls, Bool.and_eq_true, Bool.and_eq_true, Option.isNone_iff_eq_none, and_assoc,
    s.reportsOnEvent_iff, decide_eq_true_iff, eventMarks_singleton, k.mark_and_ne_zero_iff]

theorem State.setLatches_singleton (s : State) (k : EventKind) :
    s.setLatches [k] = { s with link := { s.link with
      latches := s.link.latches ||| BitVec.ofNat 15 (2 ^ k.index) } } := by
  rw [State.setLatches, eventMarks_singleton]
  rfl

/-! ## An occasion for a STATUS cell (R168, R173) -/

section
variable {s : State}

theorem any_isStatus_iff (cells : List Cell) :
    cells.any isStatus = true ↔ ∃ c ∈ cells, c.kind = .status := by
  simp [isStatus]

/-- A STATUS cell that waits takes the latches in, rebuilt in its place. -/
theorem statusOccasion_of_waits (h : ∃ c ∈ s.link.management, c.kind = .status) :
    statusOccasion s = { s.link with
      management := s.link.management.map fun c => if isStatus c then rebuildStatus s c else c
      latches := 0 } :=
  if_pos ((any_isStatus_iff _).mpr h)

theorem statusOccasion_of_owed (hwaits : ¬∃ c ∈ s.link.management, c.kind = .status)
    (howed : s.link.statusOwed = true) : statusOccasion s = s.link := by
  rw [statusOccasion, if_neg (mt (any_isStatus_iff _).mp hwaits), if_pos howed]

theorem statusOccasion_of_free (hwaits : ¬∃ c ∈ s.link.management, c.kind = .status)
    (howed : s.link.statusOwed = false) (hfree : s.link.managementFree = true) :
    statusOccasion s = queueStatus s := by
  rw [statusOccasion, if_neg (mt (any_isStatus_iff _).mp hwaits), if_neg (by simp [howed]), if_pos hfree]

theorem statusOccasion_of_full (hwaits : ¬∃ c ∈ s.link.management, c.kind = .status)
    (howed : s.link.statusOwed = false) (hfull : ¬s.link.managementFree = true) :
    statusOccasion s = { s.link with statusOwed := true } := by
  rw [statusOccasion, if_neg (mt (any_isStatus_iff _).mp hwaits), if_neg (by simp [howed]), if_neg hfull]

/-- What a merge makes of a cell of the queue: a STATUS cell is rebuilt, any other stays. -/
theorem getElem?_merged {cells : List Cell} {j : Nat} {c : Cell} (h : cells[j]? = some c) :
    (cells.map fun c => if isStatus c then rebuildStatus s c else c)[j]? =
      some (if c.kind = .status then rebuildStatus s c else c) := by
  rw [List.getElem?_map, h]
  simp [isStatus]

end

/-! ## The STATUS content (TABLE 8-6) -/

/-- The view byte: the view in force in bits 3..0, the pending change in bits 7..4. -/
theorem viewByte_bits (v : View) (pending : Option View) :
    let x := byteOf (viewCode v + 16 * pendingViewCode pending);
    (x.extractLsb' 0 4).toNat = viewCode v ∧ (x.extractLsb' 4 4).toNat = pendingViewCode pending := by
  have hview (v : View) : viewCode v ≤ 2 := by
    rcases v with (_ | _) | _ <;> decide
  have hv := hview v
  have hpending : pendingViewCode pending ≤ 3 := by
    cases pending with
    | none => exact Nat.zero_le 3
    | some p => exact Nat.succ_le_succ (hview p)
  simp only [byteOf, BitVec.extractLsb'_toNat, BitVec.toNat_ofNat, Nat.shiftRight_eq_div_pow]
  omega

/-- The first byte of a segment: the three latches and DISABLED in bits 3..0, the tune state in 7..4. -/
theorem segmentByte_bits (opened shorted surged disabled : Bool) (t : Tune) :
    let x := byteOf (bit opened + 2 * bit shorted + 4 * bit surged + 8 * bit disabled + 16 * tuneCode t);
    x.getLsbD 0 = opened ∧ x.getLsbD 1 = shorted ∧ x.getLsbD 2 = surged ∧ x.getLsbD 3 = disabled
      ∧ (x.extractLsb' 4 4).toNat = tuneCode t := by
  have hcode : tuneCode t = 0 ∨ tuneCode t = 1 ∨ tuneCode t = 2 := by cases t <;> simp [tuneCode]
  rcases hcode with hcode | hcode | hcode <;> rw [hcode] <;> revert opened shorted surged disabled <;> decide

/-- The last byte: THERMAL WARN in bit 0, THERMAL SHUT in bit 1, the others 0. -/
theorem thermalByte_bits (warn shut : Bool) :
    let x := byteOf (bit warn + 2 * bit shut);
    x.getLsbD 0 = warn ∧ x.getLsbD 1 = shut ∧ x.extractLsb' 2 6 = 0 := by
  revert warn shut
  decide

/-- The content field by field, the first field outermost. -/
theorem statusContent_eq (s : State) (l : BitVec 15) : statusContent s l =
    byteOf (thermalCode s.guard.thermal) :: temperatureByte s.guard.temperature
      :: byteOf (modeCode s.position.mode) :: (signedBytes s.position.p
        ++ byteOf (reportModeCode s.effectiveMode) :: ((Eight.build fun i =>
            segmentStatus (s.guard.segments.get i) (s.lamps.segments.get i)).toList.flatten
          ++ byteOf (bankStateCode s.views.bank0.state) :: byteOf (bankStateCode s.views.bank1.state)
            :: byteOf (viewCode s.views.inForce + 16 * pendingViewCode s.views.pendingView)
            :: (bigEndian 2 l.toNat ++ [byteOf (bit s.guard.warn + 2 * bit s.guard.shut)]))) := by
  simp only [statusContent, List.append_assoc, List.cons_append, List.nil_append]

/-- Where the two bytes of a segment stand. -/
theorem statusContent_segment (s : State) (l : BitVec 15) (i : Fin 8) :
    let g := s.guard.segments.get i;
    let d := s.lamps.segments.get i;
    (statusContent s l)[8 + 2 * i.val]? = some (byteOf (bit g.openLatch + 2 * bit g.shortLatch
        + 4 * bit g.overLatch + 8 * bit g.disabled + 16 * tuneCode d.tune))
      ∧ (statusContent s l)[9 + 2 * i.val]? = some (byteOf (tuneVerdictCode d.verdict)) := by
  rw [statusContent_eq]
  fin_cases i <;> exact ⟨rfl, rfl⟩

/-- Settles O34: the occasions are judged by `latchingCalls_singleton_iff`, an occasion takes one of four
ways, and the content stands field by field. -/
theorem statusCellsReportEvents : Obligations.StatusCellsReportEvents := by
  refine ⟨fun s k => ?latching, fun s => rfl, fun s => ?occasion, fun s l => ?content⟩
  case latching =>
    intro latched onEvent
    rw [← latchingCalls_singleton_iff, show latched = s.setLatches [k] from (s.setLatches_singleton k).symm]
    exact ⟨s.latch_reported (List.mem_singleton_self k), fun hcalls => if_pos hcalls,
      fun hquiet => if_neg hquiet⟩
  case occasion =>
    intro waits
    refine ⟨fun hwaits => ⟨_, statusOccasion_of_waits hwaits, List.length_map .., fun j c hc => ?_⟩,
      statusOccasion_of_owed, fun hwaits howed hroom => ?_, fun hwaits howed hfull => ?_⟩
    · rw [getElem?_merged hc]
      refine ⟨fun hother => by rw [if_neg hother], fun hstatus => ?_⟩
      rw [if_pos hstatus]
      exact ⟨_, rfl, rfl, carriedLatches_rebuildStatus s c,
        by rw [carriedLatches_rebuildStatus]; rfl⟩
    · exact statusOccasion_of_free hwaits howed (s.link.managementFree_iff.mpr hroom)
    · exact statusOccasion_of_full hwaits howed (mt s.link.managementFree_iff.mp (Nat.not_lt.mpr hfull))
  case content =>
    obtain ⟨hforce, hpending⟩ := viewByte_bits s.views.inForce s.views.pendingView
    intro b
    have hfields : b = _ := statusContent_eq s l
    clear_value b
    subst hfields
    refine ⟨rfl, rfl, rfl, rfl, rfl, rfl, fun i => ?_, rfl, rfl, ⟨_, rfl, hforce, hpending⟩, rfl, _, rfl,
      thermalByte_bits s.guard.warn s.guard.shut⟩
    obtain ⟨hfirst, hsecond⟩ := statusContent_segment s l i
    rw [statusContent_eq] at hfirst hsecond
    obtain ⟨hopen, hshort, hover, hdisabled, htune⟩ := segmentByte_bits
      (s.guard.segments.get i).openLatch (s.guard.segments.get i).shortLatch
      (s.guard.segments.get i).overLatch (s.guard.segments.get i).disabled (s.lamps.segments.get i).tune
    exact ⟨_, hfirst, hopen, hshort, hover, hdisabled, htune, hsecond⟩

end Sys2Proof.Machine

/-! PROOFS. The contents of the READ items byte by byte: ZONE STATS, BANK INFO, TABLE VERDICT, DEFECT ENTRIES,
and the values READ PARAMETER gives. -/

namespace Sys2Proof.Machine

/-! ## Fields within a content -/

/-- A field of `k` bytes that stands after `n` others. -/
theorem take_drop_field {α : Type} {lead field tail : List α} {n k : Nat} (hn : lead.length = n)
    (hk : field.length = k) : ((lead ++ (field ++ tail)).drop n).take k = field := by
  rw [List.drop_left' hn, List.take_left' hk]

/-- Of records of `k` bytes each, record `j` stands after `k * j` others. -/
theorem take_drop_flatMap {α β : Type} {f : α → List β} {k : Nat} (hf : ∀ a, (f a).length = k)
    {l : List α} {j : Nat} {a : α} (h : l[j]? = some a) :
    ((l.flatMap f).drop (k * j)).take k = f a := by
  induction l generalizing j with
  | nil => simp at h
  | cons x rest ih =>
    rw [List.flatMap_cons]
    cases j with
    | zero =>
      obtain rfl : x = a := by simpa using h
      exact List.take_left' (hf x)
    | succ j =>
      have hskip : k * (j + 1) = (f x).length + k * j := by rw [hf]; ring
      rw [hskip, List.drop_length_add_append]
      exact ih (by simpa using h)

theorem length_flatMap_const {α β : Type} {f : α → List β} {k : Nat} (hf : ∀ a, (f a).length = k)
    (l : List α) : (l.flatMap f).length = k * l.length := by
  simp [List.length_flatMap, hf, Nat.mul_comm]

/-- The two bytes of a 16-bit field are its number's, most significant first. -/
theorem halfBytes_eq_bigEndian (h : BitVec 16) : halfBytes h = bigEndian 2 h.toNat := by
  have hhigh : h.extractLsb' 8 8 = BitVec.ofNat 8 (h.toNat / 256) := by
    apply BitVec.eq_of_toNat_eq
    simp [BitVec.extractLsb'_toNat, Nat.shiftRight_eq_div_pow]
  have hlow : h.extractLsb' 0 8 = BitVec.ofNat 8 h.toNat := by
    apply BitVec.eq_of_toNat_eq
    simp [BitVec.extractLsb'_toNat]
  rw [halfBytes, hhigh, hlow]
  rfl

/-! ## ZONE STATS (item 4) -/

/-- The six presence marks, bit by bit (TABLE 8-9, item 4, byte 5). -/
theorem presenceByte_bits (frame pending tuning first final reseed : Bool) :
    let x := byteOf (bit frame + 2 * bit pending + 4 * bit tuning + 8 * bit first + 16 * bit final
      + 32 * bit reseed);
    x.getLsbD 0 = frame ∧ x.getLsbD 1 = pending ∧ x.getLsbD 2 = tuning ∧ x.getLsbD 3 = first
      ∧ x.getLsbD 4 = final ∧ x.getLsbD 5 = reseed ∧ x.extractLsb' 6 2 = 0 := by
  revert frame pending tuning first final reseed
  decide

/-- Whether the first exposure of a trial is known: the mark bit 3 of ZONE STATS shows. -/
def Tune.firstKnown (t : Tune) : Bool :=
  match t with
  | .tuning _ _ first _ => first.isSome
  | .steady => false
  | .holdoff _ => false

theorem Tune.firstKnown_iff (t : Tune) :
    t.firstKnown = true ↔ ∃ trial duty first preTune, t = .tuning trial duty (some first) preTune := by
  cases t with
  | tuning trial duty first preTune => cases first <;> simp [firstKnown]
  | steady | holdoff => simp [firstKnown]

theorem length_tuneFields (t : Tune) : (tuneFields t).length = 9 := by
  cases t <;> rfl

/-- The bytes of ZONE STATS before the tune fields. -/
def zoneLead (s : State) (i : Fin 8) : List Byte :=
  let d := s.lamps.segments.get i
  let z := s.engine.lastZones.get i
  byteOf i.val :: byteOf (presenceMarks s d) :: (halfBytes (s.engine.lastFrame.getD 0)
    ++ (z.bytes ++ (bigEndian 3 z.count ++ (byteOf s.lamps.cycle :: byteOf (s.lamps.pendingCycle.getD 0)
      :: (bigEndian 2 d.staged ++ bigEndian 2 d.applied)))))

/-- The bytes of ZONE STATS after the tune fields. -/
def zoneTail (d : SegmentDrive) : List Byte :=
  bigEndian 2 d.reference ++ [byteOf (tuneVerdictCode d.verdict)]
    ++ bigEndian 2 ((d.final.map Prod.fst).getD 0) ++ bigEndian 2 ((d.final.map Prod.snd).getD 0)

theorem zoneStatsContent_eq (s : State) (i : Fin 8) : zoneStatsContent s i =
    zoneLead s i ++ (tuneFields (s.lamps.segments.get i).tune ++ zoneTail (s.lamps.segments.get i)) := by
  simp only [zoneStatsContent, zoneLead, zoneTail, List.append_assoc, List.cons_append, List.nil_append]

theorem length_zoneLead (s : State) (i : Fin 8) : (zoneLead s i).length = 15 := rfl

theorem length_zoneTail (d : SegmentDrive) : (zoneTail d).length = 7 := rfl

/-- The final duty and the final M, 0 while there are none (TABLE 8-9, item 4, bytes 31..34). -/
theorem drop_zoneTail (d : SegmentDrive) : ((zoneTail d).drop 3).take 4 =
    match d.final with
    | none => List.replicate 4 0
    | some f => bigEndian 2 f.1 ++ bigEndian 2 f.2 := by
  unfold zoneTail
  cases d.final <;> rfl

/-- What stands from the tune fields' end on. -/
theorem drop_zoneStatsContent (s : State) (i : Fin 8) (n : Nat) :
    (zoneStatsContent s i).drop (24 + n) = (zoneTail (s.lamps.segments.get i)).drop n := by
  have hlead : (zoneLead s i ++ tuneFields (s.lamps.segments.get i).tune).length = 24 := by
    rw [List.length_append, length_tuneFields, length_zoneLead]
  rw [zoneStatsContent_eq, ← List.append_assoc, ← hlead, List.drop_length_add_append]

/-- The tune fields, absent ones 0 (TABLE 8-9, item 4, bytes 19..27). -/
theorem tuneFields_eq (t : Tune) : tuneFields t =
    match t with
    | .steady => List.replicate 9 0
    | .tuning trial duty first preTune =>
      [1, BitVec.ofNat 8 trial] ++ bigEndian 2 duty ++ bigEndian 2 (first.getD 0).toNat
        ++ bigEndian 2 preTune ++ [0]
    | .holdoff remaining => 2 :: List.replicate 7 0 ++ [BitVec.ofNat 8 remaining] := by
  cases t with
  | tuning trial duty first preTune =>
    rw [tuneFields, halfBytes_eq_bigEndian]
    rfl
  | steady | holdoff => rfl

/-! ## BANK INFO (item 5, R56) -/

/-- A bank takes 23 bytes: its state, and 22 of header and segment counts. -/
theorem length_bankInfo {b : Bank} (h : ∀ x, b.header = some x → x.label.length = 8) :
    (bankInfo b).length = 23 := by
  unfold bankInfo
  split
  · rfl
  · simp [h _ ‹_›]

theorem bankInfo_of_none {b : Bank} (h : b.header = none) :
    bankInfo b = byteOf (bankStateCode b.state) :: List.replicate 22 0 := by
  rw [bankInfo, h]

/-- A bank with a header: the header, and of each part the segment count and the segments received. -/
theorem bankInfo_of_some {b : Bank} {h : Header} (hh : b.header = some h) :
    bankInfo b = byteOf (bankStateCode b.state) ::
      (bigEndian 2 h.wo ++ bigEndian 2 h.ho ++ bigEndian 2 h.fill ++ h.label
        ++ bigEndian 2 (((h.wo / 16 + 1) * (h.ho / 16 + 1) + 14) / 15)
        ++ bigEndian 2 (b.received .mesh).length
        ++ [BitVec.ofNat 8 ((h.wo / 16 * (h.ho / 16) + 119) / 120),
          BitVec.ofNat 8 (b.received .zone).length,
          BitVec.ofNat 8 (((h.wo / 64 + 1) * (h.ho / 64 + 1) + 29) / 30),
          BitVec.ofNat 8 (b.received .gain).length]) := by
  rw [bankInfo, hh]
  rfl

/-- Bank 0 stands from byte 0 on and bank 1 from byte 23 on. -/
theorem drop_bankInfoContent {s : State} {k : BankId} {o : Nat}
    (h0 : (bankInfo s.views.bank0).length = 23) (ho : (k = .bank0 ∧ o = 0) ∨ (k = .bank1 ∧ o = 23)) :
    ∃ rest, (bankInfoContent s).drop o = bankInfo (s.views.get k) ++ rest := by
  rw [bankInfoContent, List.append_assoc]
  rcases ho with ⟨rfl, rfl⟩ | ⟨rfl, rfl⟩
  · exact ⟨_, rfl⟩
  · exact ⟨_, List.drop_left' h0⟩

/-! ## TABLE VERDICT (item 6, R52) -/

theorem verdictFields_eq (v : CheckVerdict) : verdictFields v =
    match v with
    | .none => [0, 0, 0, 0]
    | .passed => [1, 0, 0, 0]
    | .incomplete .mesh k => [2, 1] ++ bigEndian 2 k
    | .incomplete .zone k => [2, 2] ++ bigEndian 2 k
    | .incomplete .gain k => [2, 3] ++ bigEndian 2 k
    | .nodeOutside n => [3, 0] ++ bigEndian 2 n := by
  cases v with
  | incomplete part => cases part <;> rfl
  | none | passed | nodeOutside => rfl

/-- The raster of a check, 0 by 0 while there is none. -/
theorem rasterFields_eq (c : Option (Nat × Nat)) :
    bigEndian 2 ((c.map Prod.fst).getD 0) ++ bigEndian 2 ((c.map Prod.snd).getD 0) =
      match c with
      | none => [0, 0, 0, 0]
      | some c => bigEndian 2 c.1 ++ bigEndian 2 c.2 := by
  cases c <;> rfl

/-! ## DEFECT ENTRIES (item 7, R78) -/

/-- The three bytes of a 24-bit field are its number's, most significant first. -/
theorem tripleBytes_eq_bigEndian (e : BitVec 24) :
    [e.extractLsb' 16 8, e.extractLsb' 8 8, e.extractLsb' 0 8] = bigEndian 3 e.toNat := by
  have hbyte (k : Nat) : e.extractLsb' k 8 = BitVec.ofNat 8 (e.toNat / 2 ^ k) := by
    apply BitVec.eq_of_toNat_eq
    rw [BitVec.extractLsb'_toNat, Nat.shiftRight_eq_div_pow, BitVec.toNat_ofNat]
  rw [hbyte, hbyte, hbyte, show e.toNat / 2 ^ 16 = e.toNat / 256 / 256 by omega]
  simp [bigEndian]

/-- An entry in range, as sent: row, column, method and origin in 10, 11, 2 and 1 bits (TABLE 8-3). -/
theorem defectBytes_eq {e : DefectEntry} (hrow : e.row < 1024) (hcolumn : e.column < 2048) :
    defectBytes e = bigEndian 3 (e.row * 16384 + e.column * 8
      + (match e.method with | .h => 0 | .v => 2 | .q => 4)
      + (match e.origin with | .loaded => 0 | .learned => 1)) := by
  have hmethod : methodCode e.method < 4 := by cases e.method <;> decide
  have horigin : originCode e.origin < 2 := by cases e.origin <;> decide
  have hpacked : (packDefectEntry (BitVec.ofNat 10 e.row) (BitVec.ofNat 11 e.column)
      (BitVec.ofNat 2 (methodCode e.method)) (BitVec.ofNat 1 (originCode e.origin))).toNat
        = e.row * 16384 + e.column * 8 + 2 * methodCode e.method + originCode e.origin := by
    simp only [packDefectEntry, BitVec.toNat_append, BitVec.toNat_ofNat]
    rw [← Nat.shiftLeft_add_eq_or_of_lt (by omega), ← Nat.shiftLeft_add_eq_or_of_lt (by omega),
      ← Nat.shiftLeft_add_eq_or_of_lt (by omega)]
    simp only [Nat.shiftLeft_eq]
    omega
  rw [defectBytes, defectEntryBytes, tripleBytes_eq_bigEndian, hpacked]
  cases e.method <;> cases e.origin <;> rfl

theorem length_defectBytes (e : DefectEntry) : (defectBytes e).length = 3 := rfl

theorem byteOf_surveyCode (v : Survey) :
    byteOf (surveyCode v) = match v with | .idle => 0 | .armed => 1 | .collecting .. => 2 := by
  cases v <;> rfl

theorem overflowBytes_of_le {n : Nat} (h : n ≤ 65535) : overflowBytes n = bigEndian 2 n :=
  if_pos (Nat.lt_succ_of_le h)

theorem length_overflowBytes (n : Nat) : (overflowBytes n).length = 2 := by
  unfold overflowBytes
  split <;> rfl

/-- A survey result: the mark 1, then the added, overflow and sequence fields (item 7, bytes 10..16). -/
theorem surveyResultBytes_some (r : SurveyResult) :
    surveyResultBytes (some r) = 1 :: (bigEndian 2 r.added
      ++ (overflowBytes r.overflow ++ bigEndian 2 r.sequence.toNat)) := by
  rw [surveyResultBytes, halfBytes_eq_bigEndian, List.append_assoc]
  rfl

theorem length_surveyResultBytes (r : Option SurveyResult) : (surveyResultBytes r).length = 7 := by
  cases r with
  | none => rfl
  | some r =>
    simp only [surveyResultBytes_some, List.length_cons, List.length_append, length_bigEndian,
      length_overflowBytes]

/-- The bytes of DEFECT ENTRIES before the survey result. -/
def defectLead (u : SensorIntake) : List Byte :=
  bigEndian 2 u.defects.length ++ [byteOf u.edits.length] ++ bigEndian 2 u.projected.length
    ++ [byteOf (surveyCode u.survey)]

theorem length_defectLead (u : SensorIntake) : (defectLead u).length = 6 := rfl

/-- The entries sent from a starting index: at most 15. -/
def defectsSent (u : SensorIntake) (start : Nat) : List DefectEntry :=
  (u.defects.drop start).take 15

theorem length_defectsSent (u : SensorIntake) (start : Nat) :
    (defectsSent u start).length = min 15 (u.defects.length - start) := by
  rw [defectsSent, List.length_take, List.length_drop]

theorem getElem?_defectsSent (u : SensorIntake) (start : Nat) {j : Nat} (hj : j < 15) :
    (defectsSent u start)[j]? = u.defects[start + j]? := by
  rw [defectsSent, List.getElem?_take_of_lt hj, List.getElem?_drop]

theorem defectEntriesContent_eq (u : SensorIntake) (start : Nat) :
    defectEntriesContent u start = defectLead u ++ (surveyResultBytes u.lastSurvey
      ++ (byteOf (defectsSent u start).length :: (defectsSent u start).flatMap defectBytes)) := by
  simp only [defectEntriesContent, defectLead, defectsSent, List.append_assoc, List.cons_append,
    List.nil_append]

/-- What stands from the survey result on. -/
theorem drop_defectEntriesContent (u : SensorIntake) (start n : Nat) :
    (defectEntriesContent u start).drop (6 + n) = (surveyResultBytes u.lastSurvey
      ++ (byteOf (defectsSent u start).length :: (defectsSent u start).flatMap defectBytes)).drop n := by
  rw [defectEntriesContent_eq, ← length_defectLead u, List.drop_length_add_append]

/-- What stands from the number of entries sent on. -/
theorem drop_defectEntriesContent_sent (u : SensorIntake) (start n : Nat) :
    (defectEntriesContent u start).drop (13 + n) =
      (byteOf (defectsSent u start).length :: (defectsSent u start).flatMap defectBytes).drop n := by
  rw [show 13 + n = 6 + (7 + n) by omega, drop_defectEntriesContent,
    ← length_surveyResultBytes u.lastSurvey, List.drop_length_add_append]

/-! ## Parameter values (item 8, TABLE 10-3) -/

theorem bit_faultResponse (r : FaultResponse) :
    bit (decide (r = .keep)) = match r with | .off => 0 | .keep => 1 := by
  cases r <;> rfl

theorem bit_alertReport (r : AlertReport) :
    bit (decide (r = .statusOnly)) = match r with | .alert => 0 | .statusOnly => 1 := by
  cases r <;> rfl

/-- The values by identifier: LED CYCLE is the lamps' own, DUTY has none (TABLE 10-3). -/
theorem map_parameterValue (s : State) : (List.range 25).map (parameterValue s) =
    [none, some s.params.sourceWidth, some s.params.sourceHeight, some s.params.blackLevel,
      some s.params.darkThreshold, some s.params.exposure, some s.params.blurLimit,
      some s.params.triggerStep, some s.params.dwellTimeout, some s.params.dwellInterval,
      some s.params.parkTimeout, some s.params.parkInterval, some s.params.wakeDistance,
      some s.lamps.cycle, none, some s.params.brightnessTarget, some s.params.tuneBand,
      some s.params.referenceBeta, some s.params.tuneHoldoff, some (bit s.params.autoRetune),
      some (bit (decide (s.params.ledFaultResponse = .keep))),
      some (bit (decide (s.params.ledFaultReport = .statusOnly))),
      some (bit (decide (s.params.thermalReport = .statusOnly))),
      some (reportModeCode s.params.reportMode), some s.params.eventMask.toNat] := rfl

/-- Settles O8: every content is cut at its fields of fixed length, and each field read off. -/
theorem readContentsFollowTheTables : Obligations.ReadContentsFollowTheTables := by
  refine ⟨⟨rfl, rfl, rfl⟩, fun s i => ?zones, fun s hlabels => ?banks, fun r => ?verdict,
    fun u start => ?defects, fun s => ⟨?values, fun n => parameterValue_of_lt⟩⟩
  case zones =>
    intro b d z
    obtain ⟨hframe, hpending, htuning, hfirst, hfinal, hreseed, hrest⟩ :=
      presenceByte_bits s.engine.lastFrame.isSome s.lamps.pendingCycle.isSome d.isTuning
        d.tune.firstKnown d.final.isSome d.reseed
    have hcut : b = zoneLead s i ++ (tuneFields d.tune ++ zoneTail d) := zoneStatsContent_eq s i
    have htail (n : Nat) : b.drop (24 + n) = (zoneTail d).drop n := drop_zoneStatsContent s i n
    clear_value b
    subst hcut
    refine ⟨?length, rfl, ⟨_, rfl, hframe, hpending, htuning, ?first, hfinal, hreseed, hrest⟩, ?frame,
      (rfl : _ = z.bytes).trans z.bytes_eq, rfl, rfl, rfl, rfl, rfl, ?tune, ?reference, ?tuneVerdict, ?final⟩
    case length =>
      rw [List.length_append, List.length_append, length_zoneLead, length_tuneFields,
        length_zoneTail]
    case first => exact (Bool.eq_iff_iff.mp hfirst).trans d.tune.firstKnown_iff
    case frame => exact (rfl : _ = halfBytes _).trans (halfBytes_eq_bigEndian _)
    case tune =>
      rw [take_drop_field (length_zoneLead s i) (length_tuneFields _)]
      exact tuneFields_eq d.tune
    case reference => rw [htail 0]; rfl
    case tuneVerdict => rw [← Nat.add_zero 26, ← List.getElem?_drop, htail 2]; rfl
    case final => rw [htail 3]; exact drop_zoneTail d
  case banks =>
    intro b
    have hlength (k : BankId) : (bankInfo (s.views.get k)).length = 23 := length_bankInfo (hlabels k)
    obtain ⟨hforce, hpending⟩ := viewByte_bits s.views.inForce s.views.pendingView
    have hbanks : (bankInfo s.views.bank0 ++ bankInfo s.views.bank1).length = 46 :=
      List.length_append.trans (congrArg₂ _ (hlength .bank0) (hlength .bank1))
    refine ⟨List.length_append.trans (congrArg (· + 1) hbanks), fun k o ho => ?bank,
      _, ?view, hforce, hpending⟩
    case view => exact hbanks ▸ List.getElem?_concat_length ..
    case bank =>
      obtain ⟨rest, hdrop⟩ := drop_bankInfoContent (hlength .bank0) ho
      have hnext : b.drop (o + 1) = (bankInfo (s.views.get k) ++ rest).drop 1 := by
        rw [← List.drop_drop, show b.drop o = _ from hdrop]
      refine ⟨?_, fun hnone => ?_, fun h hsome => ?_⟩
      · rw [← Nat.add_zero o, ← List.getElem?_drop, show b.drop o = _ from hdrop]
        rfl
      · rw [hnext, bankInfo_of_none hnone]
        rfl
      · have hcount := hlength k
        rw [bankInfo_of_some hsome] at hnext hcount
        rw [hnext]
        exact List.take_left' (Nat.succ.inj hcount)
  case verdict =>
    rw [verdictContent, List.append_assoc, verdictFields_eq, rasterFields_eq]
    rfl
  case defects =>
    intro b n
    have hsent : (defectsSent u start).length = n := length_defectsSent u start
    have hsurvey (k : Nat) : b.drop (6 + k) = _ := drop_defectEntriesContent u start k
    have hentries (k : Nat) : b.drop (13 + k) = _ := drop_defectEntriesContent_sent u start k
    refine ⟨?length, rfl, rfl, rfl, ?state, fun hnone => ?none, fun r hsome => ?some, ?number,
      fun j hj e he hrow hcolumn => ?entry⟩
    case length =>
      rw [show b = _ from defectEntriesContent_eq u start, List.length_append, List.length_append,
        List.length_cons, length_defectLead, length_surveyResultBytes,
        length_flatMap_const length_defectBytes, hsent]
      omega
    case state => exact congrArg some (byteOf_surveyCode u.survey)
    case none => rw [hsurvey 0, hnone]; rfl
    case some =>
      simp only [hsome, surveyResultBytes_some] at hsurvey
      refine ⟨?_, ?_, fun hfits => ?_, ?_⟩
      · rw [← Nat.add_zero 6, ← List.getElem?_drop, hsurvey 0]
        rfl
      · rw [hsurvey 1]
        rfl
      · rw [hsurvey 3, overflowBytes_of_le hfits]
        rfl
      · obtain ⟨x, y, hbytes⟩ := List.length_eq_two.mp (length_overflowBytes r.overflow)
        rw [hsurvey 5, hbytes]
        rfl
    case number =>
      rw [← Nat.add_zero 13, ← List.getElem?_drop, hentries 0, hsent]
      rfl
    case entry =>
      have hplace : (defectsSent u start)[j]? = some e := by
        rw [getElem?_defectsSent u start (by omega), he]
      rw [show 14 + 3 * j = 13 + (3 * j + 1) by omega, hentries, List.drop_succ_cons,
        take_drop_flatMap length_defectBytes hplace]
      exact defectBytes_eq hrow hcolumn
  case values =>
    rw [map_parameterValue, bit_faultResponse, bit_alertReport, bit_alertReport]
    rfl

end Sys2Proof.Machine
